-- ==== Sys2Proof/Word.lean ====
section
/-! DEFINITION. The two word types of the block (spec/00_scope.md R7, R9): a u8 and a u16. -/

namespace Sys2Proof

/-- A u8: a register, a memory cell, an opcode or operand byte (R7, R9). -/
abbrev Byte := BitVec 8

/-- A u16: the program counter and every effective address (R7, R9). -/
abbrev Word := BitVec 16

end Sys2Proof
end

