-- ==== Sys2Proof/Syntax.lean ====
section
/-! DEFINITION. The instructions: one constructor for each of the 151 rows of the opcode map (spec/30_encoding.md R84, R85),
named mnemonic then addressing mode (the mnemonic alone for the Implied rows), carrying the operand as R82 assembles it: the
operand byte, or for the 3-byte forms the 16-bit value whose high byte comes first in the instruction. -/

namespace Sys2Proof

/-- A decoded instruction with its operand (R80 to R85). -/
inductive Instr where
  -- spec/41_load_store.md
  | ldaImmediate (imm : Byte)
  | ldaZeroPage (zp : Byte)
  | ldaZeroPageX (zp : Byte)
  | ldaIndexedIndirectX (zp : Byte)
  | ldaIndirectIndexedY (zp : Byte)
  | ldaAbsolute (addr : Word)
  | ldaAbsoluteX (addr : Word)
  | ldaAbsoluteY (addr : Word)
  | ldxImmediate (imm : Byte)
  | ldxZeroPage (zp : Byte)
  | ldxZeroPageY (zp : Byte)
  | ldxAbsolute (addr : Word)
  | ldxAbsoluteY (addr : Word)
  | ldyImmediate (imm : Byte)
  | ldyZeroPage (zp : Byte)
  | ldyZeroPageX (zp : Byte)
  | ldyAbsolute (addr : Word)
  | ldyAbsoluteX (addr : Word)
  | staZeroPage (zp : Byte)
  | staZeroPageX (zp : Byte)
  | staIndexedIndirectX (zp : Byte)
  | staIndirectIndexedY (zp : Byte)
  | staAbsolute (addr : Word)
  | staAbsoluteX (addr : Word)
  | staAbsoluteY (addr : Word)
  | stxZeroPage (zp : Byte)
  | stxZeroPageY (zp : Byte)
  | stxAbsolute (addr : Word)
  | styZeroPage (zp : Byte)
  | styZeroPageX (zp : Byte)
  | styAbsolute (addr : Word)
  -- spec/42_transfer.md
  | tax
  | txa
  | tay
  | tya
  | tsx
  | txs
  -- spec/43_inc_dec.md
  | inx
  | iny
  | dex
  | dey
  | incZeroPage (zp : Byte)
  | incZeroPageX (zp : Byte)
  | incAbsolute (addr : Word)
  | incAbsoluteX (addr : Word)
  | decZeroPage (zp : Byte)
  | decZeroPageX (zp : Byte)
  | decAbsolute (addr : Word)
  | decAbsoluteX (addr : Word)
  -- spec/44_stack.md
  | pha
  | pla
  | php
  | plp
  -- spec/45_control.md
  | jmpAbsolute (addr : Word)
  | jmpIndirect (ptr : Word)
  | nop
  | brk
  | jsrAbsolute (addr : Word)
  | rts
  | rti
  | bplRelative (rel : Byte)
  | bmiRelative (rel : Byte)
  | bvcRelative (rel : Byte)
  | bvsRelative (rel : Byte)
  | bccRelative (rel : Byte)
  | bcsRelative (rel : Byte)
  | bneRelative (rel : Byte)
  | beqRelative (rel : Byte)
  -- spec/46_arith_logic.md
  | adcImmediate (imm : Byte)
  | adcZeroPage (zp : Byte)
  | adcZeroPageX (zp : Byte)
  | adcIndexedIndirectX (zp : Byte)
  | adcIndirectIndexedY (zp : Byte)
  | adcAbsolute (addr : Word)
  | adcAbsoluteX (addr : Word)
  | adcAbsoluteY (addr : Word)
  | sbcImmediate (imm : Byte)
  | sbcZeroPage (zp : Byte)
  | sbcZeroPageX (zp : Byte)
  | sbcIndexedIndirectX (zp : Byte)
  | sbcIndirectIndexedY (zp : Byte)
  | sbcAbsolute (addr : Word)
  | sbcAbsoluteX (addr : Word)
  | sbcAbsoluteY (addr : Word)
  | andImmediate (imm : Byte)
  | andZeroPage (zp : Byte)
  | andZeroPageX (zp : Byte)
  | andIndexedIndirectX (zp : Byte)
  | andIndirectIndexedY (zp : Byte)
  | andAbsolute (addr : Word)
  | andAbsoluteX (addr : Word)
  | andAbsoluteY (addr : Word)
  | oraImmediate (imm : Byte)
  | oraZeroPage (zp : Byte)
  | oraZeroPageX (zp : Byte)
  | oraIndexedIndirectX (zp : Byte)
  | oraIndirectIndexedY (zp : Byte)
  | oraAbsolute (addr : Word)
  | oraAbsoluteX (addr : Word)
  | oraAbsoluteY (addr : Word)
  | eorImmediate (imm : Byte)
  | eorZeroPage (zp : Byte)
  | eorZeroPageX (zp : Byte)
  | eorIndexedIndirectX (zp : Byte)
  | eorIndirectIndexedY (zp : Byte)
  | eorAbsolute (addr : Word)
  | eorAbsoluteX (addr : Word)
  | eorAbsoluteY (addr : Word)
  | cmpImmediate (imm : Byte)
  | cmpZeroPage (zp : Byte)
  | cmpZeroPageX (zp : Byte)
  | cmpIndexedIndirectX (zp : Byte)
  | cmpIndirectIndexedY (zp : Byte)
  | cmpAbsolute (addr : Word)
  | cmpAbsoluteX (addr : Word)
  | cmpAbsoluteY (addr : Word)
  | cpxImmediate (imm : Byte)
  | cpxZeroPage (zp : Byte)
  | cpxAbsolute (addr : Word)
  | cpyImmediate (imm : Byte)
  | cpyZeroPage (zp : Byte)
  | cpyAbsolute (addr : Word)
  | bitZeroPage (zp : Byte)
  | bitAbsolute (addr : Word)
  -- spec/47_shift_rotate.md
  | aslAccumulator
  | aslZeroPage (zp : Byte)
  | aslZeroPageX (zp : Byte)
  | aslAbsolute (addr : Word)
  | aslAbsoluteX (addr : Word)
  | lsrAccumulator
  | lsrZeroPage (zp : Byte)
  | lsrZeroPageX (zp : Byte)
  | lsrAbsolute (addr : Word)
  | lsrAbsoluteX (addr : Word)
  | rolAccumulator
  | rolZeroPage (zp : Byte)
  | rolZeroPageX (zp : Byte)
  | rolAbsolute (addr : Word)
  | rolAbsoluteX (addr : Word)
  | rorAccumulator
  | rorZeroPage (zp : Byte)
  | rorZeroPageX (zp : Byte)
  | rorAbsolute (addr : Word)
  | rorAbsoluteX (addr : Word)
  -- spec/48_flag_ops.md
  | clc
  | sec
  | cli
  | sei
  | cld
  | sed
  | clv
  deriving DecidableEq, Repr

end Sys2Proof
end

