-- ==== Sys2Proof/WellFormed.lean ====
section
/-! DEFINITION. Mnemonics, addressing modes and which modes the opcode map pairs with which mnemonic (spec/30_encoding.md
R81, R83, R85): the well-formedness of an instruction. `Instr` has a constructor for the legal pairs only and its operand
types admit exactly the values R82 gives, so every `Instr` passes the check; what the check can refuse is a pair that the
opcode map does not hold, such as STA Immediate. -/

namespace Sys2Proof

/-- The 56 mnemonics (R2, R84). -/
inductive Mnemonic where
  | lda | ldx | ldy | sta | stx | sty
  | tax | txa | tay | tya | tsx | txs
  | inx | iny | dex | dey | inc | dec
  | pha | pla | php | plp
  | jmp | nop | brk | jsr | rts | rti | bpl | bmi | bvc | bvs | bcc | bcs | bne | beq
  | adc | sbc | and | ora | eor | cmp | cpx | cpy | bit
  | asl | lsr | rol | ror
  | clc | sec | cli | sei | cld | sed | clv
  deriving DecidableEq, Repr

/-- The 13 addressing modes (R81). -/
inductive Mode where
  | implied | accumulator | immediate | zeroPage | zeroPageX | zeroPageY | relative
  | indexedIndirectX | indirectIndexedY | absolute | absoluteX | absoluteY | indirect
  deriving DecidableEq, Repr

/-- The instruction length in bytes of each mode: `len(mode)` of R81. -/
def Mode.len : Mode → Nat
  | .implied | .accumulator => 1
  | .immediate | .zeroPage | .zeroPageX | .zeroPageY | .relative | .indexedIndirectX | .indirectIndexedY => 2
  | .absolute | .absoluteX | .absoluteY | .indirect => 3

/-- The modes the opcode map pairs with a mnemonic (R85): "each case accepts exactly the modes the opcode map pairs it
with" (R103). -/
def Mnemonic.modes : Mnemonic → List Mode
    | .lda | .adc | .sbc | .and | .ora | .eor | .cmp =>
    [.immediate, .zeroPage, .zeroPageX, .indexedIndirectX, .indirectIndexedY, .absolute, .absoluteX, .absoluteY]
    | .ldx =>
    [.immediate, .zeroPage, .zeroPageY, .absolute, .absoluteY]
    | .ldy =>
    [.immediate, .zeroPage, .zeroPageX, .absolute, .absoluteX]
    | .sta =>
    [.zeroPage, .zeroPageX, .indexedIndirectX, .indirectIndexedY, .absolute, .absoluteX, .absoluteY]
    | .stx =>
    [.zeroPage, .zeroPageY, .absolute]
    | .sty =>
    [.zeroPage, .zeroPageX, .absolute]
    | .tax | .txa | .tay | .tya | .tsx | .txs | .inx | .iny | .dex | .dey | .pha | .pla | .php | .plp | .nop | .brk |
  .rts | .rti | .clc | .sec | .cli | .sei | .cld | .sed | .clv =>
    [.implied]
    | .inc | .dec =>
    [.zeroPage, .zeroPageX, .absolute, .absoluteX]
    | .jmp =>
    [.absolute, .indirect]
    | .jsr =>
    [.absolute]
    | .bpl | .bmi | .bvc | .bvs | .bcc | .bcs | .bne | .beq =>
    [.relative]
    | .cpx | .cpy =>
    [.immediate, .zeroPage, .absolute]
    | .bit =>
    [.zeroPage, .absolute]
    | .asl | .lsr | .rol | .ror =>
    [.accumulator, .zeroPage, .zeroPageX, .absolute, .absoluteX]

/-- A decoded (mnemonic, addressing mode) pair of the opcode table (R83). -/
structure Pairing where
  mnemonic : Mnemonic
  mode : Mode
  deriving DecidableEq, Repr

/-- Does the opcode map hold this pair (R83, R85)? -/
def Pairing.wellFormed (p : Pairing) : Bool := p.mnemonic.modes.contains p.mode

/-- The mnemonic and addressing mode of an instruction. -/
def Instr.pairing : Instr → Pairing
  | .ldaImmediate _ => ⟨.lda, .immediate⟩
  | .ldaZeroPage _ => ⟨.lda, .zeroPage⟩
  | .ldaZeroPageX _ => ⟨.lda, .zeroPageX⟩
  | .ldaIndexedIndirectX _ => ⟨.lda, .indexedIndirectX⟩
  | .ldaIndirectIndexedY _ => ⟨.lda, .indirectIndexedY⟩
  | .ldaAbsolute _ => ⟨.lda, .absolute⟩
  | .ldaAbsoluteX _ => ⟨.lda, .absoluteX⟩
  | .ldaAbsoluteY _ => ⟨.lda, .absoluteY⟩
  | .ldxImmediate _ => ⟨.ldx, .immediate⟩
  | .ldxZeroPage _ => ⟨.ldx, .zeroPage⟩
  | .ldxZeroPageY _ => ⟨.ldx, .zeroPageY⟩
  | .ldxAbsolute _ => ⟨.ldx, .absolute⟩
  | .ldxAbsoluteY _ => ⟨.ldx, .absoluteY⟩
  | .ldyImmediate _ => ⟨.ldy, .immediate⟩
  | .ldyZeroPage _ => ⟨.ldy, .zeroPage⟩
  | .ldyZeroPageX _ => ⟨.ldy, .zeroPageX⟩
  | .ldyAbsolute _ => ⟨.ldy, .absolute⟩
  | .ldyAbsoluteX _ => ⟨.ldy, .absoluteX⟩
  | .staZeroPage _ => ⟨.sta, .zeroPage⟩
  | .staZeroPageX _ => ⟨.sta, .zeroPageX⟩
  | .staIndexedIndirectX _ => ⟨.sta, .indexedIndirectX⟩
  | .staIndirectIndexedY _ => ⟨.sta, .indirectIndexedY⟩
  | .staAbsolute _ => ⟨.sta, .absolute⟩
  | .staAbsoluteX _ => ⟨.sta, .absoluteX⟩
  | .staAbsoluteY _ => ⟨.sta, .absoluteY⟩
  | .stxZeroPage _ => ⟨.stx, .zeroPage⟩
  | .stxZeroPageY _ => ⟨.stx, .zeroPageY⟩
  | .stxAbsolute _ => ⟨.stx, .absolute⟩
  | .styZeroPage _ => ⟨.sty, .zeroPage⟩
  | .styZeroPageX _ => ⟨.sty, .zeroPageX⟩
  | .styAbsolute _ => ⟨.sty, .absolute⟩
  | .tax => ⟨.tax, .implied⟩
  | .txa => ⟨.txa, .implied⟩
  | .tay => ⟨.tay, .implied⟩
  | .tya => ⟨.tya, .implied⟩
  | .tsx => ⟨.tsx, .implied⟩
  | .txs => ⟨.txs, .implied⟩
  | .inx => ⟨.inx, .implied⟩
  | .iny => ⟨.iny, .implied⟩
  | .dex => ⟨.dex, .implied⟩
  | .dey => ⟨.dey, .implied⟩
  | .incZeroPage _ => ⟨.inc, .zeroPage⟩
  | .incZeroPageX _ => ⟨.inc, .zeroPageX⟩
  | .incAbsolute _ => ⟨.inc, .absolute⟩
  | .incAbsoluteX _ => ⟨.inc, .absoluteX⟩
  | .decZeroPage _ => ⟨.dec, .zeroPage⟩
  | .decZeroPageX _ => ⟨.dec, .zeroPageX⟩
  | .decAbsolute _ => ⟨.dec, .absolute⟩
  | .decAbsoluteX _ => ⟨.dec, .absoluteX⟩
  | .pha => ⟨.pha, .implied⟩
  | .pla => ⟨.pla, .implied⟩
  | .php => ⟨.php, .implied⟩
  | .plp => ⟨.plp, .implied⟩
  | .jmpAbsolute _ => ⟨.jmp, .absolute⟩
  | .jmpIndirect _ => ⟨.jmp, .indirect⟩
  | .nop => ⟨.nop, .implied⟩
  | .brk => ⟨.brk, .implied⟩
  | .jsrAbsolute _ => ⟨.jsr, .absolute⟩
  | .rts => ⟨.rts, .implied⟩
  | .rti => ⟨.rti, .implied⟩
  | .bplRelative _ => ⟨.bpl, .relative⟩
  | .bmiRelative _ => ⟨.bmi, .relative⟩
  | .bvcRelative _ => ⟨.bvc, .relative⟩
  | .bvsRelative _ => ⟨.bvs, .relative⟩
  | .bccRelative _ => ⟨.bcc, .relative⟩
  | .bcsRelative _ => ⟨.bcs, .relative⟩
  | .bneRelative _ => ⟨.bne, .relative⟩
  | .beqRelative _ => ⟨.beq, .relative⟩
  | .adcImmediate _ => ⟨.adc, .immediate⟩
  | .adcZeroPage _ => ⟨.adc, .zeroPage⟩
  | .adcZeroPageX _ => ⟨.adc, .zeroPageX⟩
  | .adcIndexedIndirectX _ => ⟨.adc, .indexedIndirectX⟩
  | .adcIndirectIndexedY _ => ⟨.adc, .indirectIndexedY⟩
  | .adcAbsolute _ => ⟨.adc, .absolute⟩
  | .adcAbsoluteX _ => ⟨.adc, .absoluteX⟩
  | .adcAbsoluteY _ => ⟨.adc, .absoluteY⟩
  | .sbcImmediate _ => ⟨.sbc, .immediate⟩
  | .sbcZeroPage _ => ⟨.sbc, .zeroPage⟩
  | .sbcZeroPageX _ => ⟨.sbc, .zeroPageX⟩
  | .sbcIndexedIndirectX _ => ⟨.sbc, .indexedIndirectX⟩
  | .sbcIndirectIndexedY _ => ⟨.sbc, .indirectIndexedY⟩
  | .sbcAbsolute _ => ⟨.sbc, .absolute⟩
  | .sbcAbsoluteX _ => ⟨.sbc, .absoluteX⟩
  | .sbcAbsoluteY _ => ⟨.sbc, .absoluteY⟩
  | .andImmediate _ => ⟨.and, .immediate⟩
  | .andZeroPage _ => ⟨.and, .zeroPage⟩
  | .andZeroPageX _ => ⟨.and, .zeroPageX⟩
  | .andIndexedIndirectX _ => ⟨.and, .indexedIndirectX⟩
  | .andIndirectIndexedY _ => ⟨.and, .indirectIndexedY⟩
  | .andAbsolute _ => ⟨.and, .absolute⟩
  | .andAbsoluteX _ => ⟨.and, .absoluteX⟩
  | .andAbsoluteY _ => ⟨.and, .absoluteY⟩
  | .oraImmediate _ => ⟨.ora, .immediate⟩
  | .oraZeroPage _ => ⟨.ora, .zeroPage⟩
  | .oraZeroPageX _ => ⟨.ora, .zeroPageX⟩
  | .oraIndexedIndirectX _ => ⟨.ora, .indexedIndirectX⟩
  | .oraIndirectIndexedY _ => ⟨.ora, .indirectIndexedY⟩
  | .oraAbsolute _ => ⟨.ora, .absolute⟩
  | .oraAbsoluteX _ => ⟨.ora, .absoluteX⟩
  | .oraAbsoluteY _ => ⟨.ora, .absoluteY⟩
  | .eorImmediate _ => ⟨.eor, .immediate⟩
  | .eorZeroPage _ => ⟨.eor, .zeroPage⟩
  | .eorZeroPageX _ => ⟨.eor, .zeroPageX⟩
  | .eorIndexedIndirectX _ => ⟨.eor, .indexedIndirectX⟩
  | .eorIndirectIndexedY _ => ⟨.eor, .indirectIndexedY⟩
  | .eorAbsolute _ => ⟨.eor, .absolute⟩
  | .eorAbsoluteX _ => ⟨.eor, .absoluteX⟩
  | .eorAbsoluteY _ => ⟨.eor, .absoluteY⟩
  | .cmpImmediate _ => ⟨.cmp, .immediate⟩
  | .cmpZeroPage _ => ⟨.cmp, .zeroPage⟩
  | .cmpZeroPageX _ => ⟨.cmp, .zeroPageX⟩
  | .cmpIndexedIndirectX _ => ⟨.cmp, .indexedIndirectX⟩
  | .cmpIndirectIndexedY _ => ⟨.cmp, .indirectIndexedY⟩
  | .cmpAbsolute _ => ⟨.cmp, .absolute⟩
  | .cmpAbsoluteX _ => ⟨.cmp, .absoluteX⟩
  | .cmpAbsoluteY _ => ⟨.cmp, .absoluteY⟩
  | .cpxImmediate _ => ⟨.cpx, .immediate⟩
  | .cpxZeroPage _ => ⟨.cpx, .zeroPage⟩
  | .cpxAbsolute _ => ⟨.cpx, .absolute⟩
  | .cpyImmediate _ => ⟨.cpy, .immediate⟩
  | .cpyZeroPage _ => ⟨.cpy, .zeroPage⟩
  | .cpyAbsolute _ => ⟨.cpy, .absolute⟩
  | .bitZeroPage _ => ⟨.bit, .zeroPage⟩
  | .bitAbsolute _ => ⟨.bit, .absolute⟩
  | .aslAccumulator => ⟨.asl, .accumulator⟩
  | .aslZeroPage _ => ⟨.asl, .zeroPage⟩
  | .aslZeroPageX _ => ⟨.asl, .zeroPageX⟩
  | .aslAbsolute _ => ⟨.asl, .absolute⟩
  | .aslAbsoluteX _ => ⟨.asl, .absoluteX⟩
  | .lsrAccumulator => ⟨.lsr, .accumulator⟩
  | .lsrZeroPage _ => ⟨.lsr, .zeroPage⟩
  | .lsrZeroPageX _ => ⟨.lsr, .zeroPageX⟩
  | .lsrAbsolute _ => ⟨.lsr, .absolute⟩
  | .lsrAbsoluteX _ => ⟨.lsr, .absoluteX⟩
  | .rolAccumulator => ⟨.rol, .accumulator⟩
  | .rolZeroPage _ => ⟨.rol, .zeroPage⟩
  | .rolZeroPageX _ => ⟨.rol, .zeroPageX⟩
  | .rolAbsolute _ => ⟨.rol, .absolute⟩
  | .rolAbsoluteX _ => ⟨.rol, .absoluteX⟩
  | .rorAccumulator => ⟨.ror, .accumulator⟩
  | .rorZeroPage _ => ⟨.ror, .zeroPage⟩
  | .rorZeroPageX _ => ⟨.ror, .zeroPageX⟩
  | .rorAbsolute _ => ⟨.ror, .absolute⟩
  | .rorAbsoluteX _ => ⟨.ror, .absoluteX⟩
  | .clc => ⟨.clc, .implied⟩
  | .sec => ⟨.sec, .implied⟩
  | .cli => ⟨.cli, .implied⟩
  | .sei => ⟨.sei, .implied⟩
  | .cld => ⟨.cld, .implied⟩
  | .sed => ⟨.sed, .implied⟩
  | .clv => ⟨.clv, .implied⟩

/-- The mnemonic of an instruction. -/
def Instr.mnemonic (i : Instr) : Mnemonic := i.pairing.mnemonic

/-- The addressing mode of an instruction. -/
def Instr.mode (i : Instr) : Mode := i.pairing.mode

/-- The length of an instruction in bytes (R88: `length(op) = len(mode(decode(op)))`). -/
def Instr.length (i : Instr) : Nat := i.mode.len

/-- An instruction is well formed when the opcode map holds its (mnemonic, mode) pair. -/
def Instr.wellFormed (i : Instr) : Bool := i.pairing.wellFormed

end Sys2Proof
end

