-- ==== Sys2Proof/Decode.lean ====
section
/-! DEFINITION. The opcode table of spec/30_encoding.md R84 in the shape the spec prints it (16 rows of 16 columns), the
decoder that reads it (R80 to R83, R88), and after it the encoder written from the same section (R85). -/

namespace Sys2Proof

/-- `make_address(hi, lo)`, that is `hi :: lo` (spec/00_scope.md R9). -/
def makeAddress (hi lo : Byte) : Word := hi ++ lo

/-- `a[15:8]`, the first half of `split_address(a)` (R9). -/
def hiByte (a : Word) : Byte := a.extractLsb' 8 8

/-- `a[7:0]`, the second half of `split_address(a)` (R9). -/
def loByte (a : Word) : Byte := a.extractLsb' 0 8

/-- One entry of the opcode table: no instruction, or the instruction and how many operand bytes it takes (R81). -/
inductive Entry where
  /-- `--` in R84: the byte is illegal (R86). -/
  | illegal
  /-- A 1-byte form. -/
  | plain (i : Instr)
  /-- A 2-byte form: the operand is byte1. -/
  | byte (f : Byte → Instr)
  /-- A 3-byte form: the operand is `byte1 :: byte2`, high byte first (R82). -/
  | addr (f : Word → Instr)

/-- Row 0 of R84: opcode bytes 0x00 to 0x0F. -/
def opcodeRow0 : List Entry :=
  [.plain .brk, .byte .oraIndexedIndirectX, .illegal, .illegal,
   .illegal, .byte .oraZeroPage, .byte .aslZeroPage, .illegal,
   .plain .php, .byte .oraImmediate, .plain .aslAccumulator, .illegal,
   .illegal, .addr .oraAbsolute, .addr .aslAbsolute, .illegal]

/-- Row 1 of R84: opcode bytes 0x10 to 0x1F. -/
def opcodeRow1 : List Entry :=
  [.byte .bplRelative, .byte .oraIndirectIndexedY, .illegal, .illegal,
   .illegal, .byte .oraZeroPageX, .byte .aslZeroPageX, .illegal,
   .plain .clc, .addr .oraAbsoluteY, .illegal, .illegal,
   .illegal, .addr .oraAbsoluteX, .addr .aslAbsoluteX, .illegal]

/-- Row 2 of R84: opcode bytes 0x20 to 0x2F. -/
def opcodeRow2 : List Entry :=
  [.addr .jsrAbsolute, .byte .andIndexedIndirectX, .illegal, .illegal,
   .byte .bitZeroPage, .byte .andZeroPage, .byte .rolZeroPage, .illegal,
   .plain .plp, .byte .andImmediate, .plain .rolAccumulator, .illegal,
   .addr .bitAbsolute, .addr .andAbsolute, .addr .rolAbsolute, .illegal]

/-- Row 3 of R84: opcode bytes 0x30 to 0x3F. -/
def opcodeRow3 : List Entry :=
  [.byte .bmiRelative, .byte .andIndirectIndexedY, .illegal, .illegal,
   .illegal, .byte .andZeroPageX, .byte .rolZeroPageX, .illegal,
   .plain .sec, .addr .andAbsoluteY, .illegal, .illegal,
   .illegal, .addr .andAbsoluteX, .addr .rolAbsoluteX, .illegal]

/-- Row 4 of R84: opcode bytes 0x40 to 0x4F. -/
def opcodeRow4 : List Entry :=
  [.plain .rti, .byte .eorIndexedIndirectX, .illegal, .illegal,
   .illegal, .byte .eorZeroPage, .byte .lsrZeroPage, .illegal,
   .plain .pha, .byte .eorImmediate, .plain .lsrAccumulator, .illegal,
   .addr .jmpAbsolute, .addr .eorAbsolute, .addr .lsrAbsolute, .illegal]

/-- Row 5 of R84: opcode bytes 0x50 to 0x5F. -/
def opcodeRow5 : List Entry :=
  [.byte .bvcRelative, .byte .eorIndirectIndexedY, .illegal, .illegal,
   .illegal, .byte .eorZeroPageX, .byte .lsrZeroPageX, .illegal,
   .plain .cli, .addr .eorAbsoluteY, .illegal, .illegal,
   .illegal, .addr .eorAbsoluteX, .addr .lsrAbsoluteX, .illegal]

/-- Row 6 of R84: opcode bytes 0x60 to 0x6F. -/
def opcodeRow6 : List Entry :=
  [.plain .rts, .byte .adcIndexedIndirectX, .illegal, .illegal,
   .illegal, .byte .adcZeroPage, .byte .rorZeroPage, .illegal,
   .plain .pla, .byte .adcImmediate, .plain .rorAccumulator, .illegal,
   .addr .jmpIndirect, .addr .adcAbsolute, .addr .rorAbsolute, .illegal]

/-- Row 7 of R84: opcode bytes 0x70 to 0x7F. -/
def opcodeRow7 : List Entry :=
  [.byte .bvsRelative, .byte .adcIndirectIndexedY, .illegal, .illegal,
   .illegal, .byte .adcZeroPageX, .byte .rorZeroPageX, .illegal,
   .plain .sei, .addr .adcAbsoluteY, .illegal, .illegal,
   .illegal, .addr .adcAbsoluteX, .addr .rorAbsoluteX, .illegal]

/-- Row 8 of R84: opcode bytes 0x80 to 0x8F. -/
def opcodeRow8 : List Entry :=
  [.illegal, .byte .staIndexedIndirectX, .illegal, .illegal,
   .byte .styZeroPage, .byte .staZeroPage, .byte .stxZeroPage, .illegal,
   .plain .dey, .illegal, .plain .txa, .illegal,
   .addr .styAbsolute, .addr .staAbsolute, .addr .stxAbsolute, .illegal]

/-- Row 9 of R84: opcode bytes 0x90 to 0x9F. -/
def opcodeRow9 : List Entry :=
  [.byte .bccRelative, .byte .staIndirectIndexedY, .illegal, .illegal,
   .byte .styZeroPageX, .byte .staZeroPageX, .byte .stxZeroPageY, .illegal,
   .plain .tya, .addr .staAbsoluteY, .plain .txs, .illegal,
   .illegal, .addr .staAbsoluteX, .illegal, .illegal]

/-- Row A of R84: opcode bytes 0xA0 to 0xAF. -/
def opcodeRowA : List Entry :=
  [.byte .ldyImmediate, .byte .ldaIndexedIndirectX, .byte .ldxImmediate, .illegal,
   .byte .ldyZeroPage, .byte .ldaZeroPage, .byte .ldxZeroPage, .illegal,
   .plain .tay, .byte .ldaImmediate, .plain .tax, .illegal,
   .addr .ldyAbsolute, .addr .ldaAbsolute, .addr .ldxAbsolute, .illegal]

/-- Row B of R84: opcode bytes 0xB0 to 0xBF. -/
def opcodeRowB : List Entry :=
  [.byte .bcsRelative, .byte .ldaIndirectIndexedY, .illegal, .illegal,
   .byte .ldyZeroPageX, .byte .ldaZeroPageX, .byte .ldxZeroPageY, .illegal,
   .plain .clv, .addr .ldaAbsoluteY, .plain .tsx, .illegal,
   .addr .ldyAbsoluteX, .addr .ldaAbsoluteX, .addr .ldxAbsoluteY, .illegal]

/-- Row C of R84: opcode bytes 0xC0 to 0xCF. -/
def opcodeRowC : List Entry :=
  [.byte .cpyImmediate, .byte .cmpIndexedIndirectX, .illegal, .illegal,
   .byte .cpyZeroPage, .byte .cmpZeroPage, .byte .decZeroPage, .illegal,
   .plain .iny, .byte .cmpImmediate, .plain .dex, .illegal,
   .addr .cpyAbsolute, .addr .cmpAbsolute, .addr .decAbsolute, .illegal]

/-- Row D of R84: opcode bytes 0xD0 to 0xDF. -/
def opcodeRowD : List Entry :=
  [.byte .bneRelative, .byte .cmpIndirectIndexedY, .illegal, .illegal,
   .illegal, .byte .cmpZeroPageX, .byte .decZeroPageX, .illegal,
   .plain .cld, .addr .cmpAbsoluteY, .illegal, .illegal,
   .illegal, .addr .cmpAbsoluteX, .addr .decAbsoluteX, .illegal]

/-- Row E of R84: opcode bytes 0xE0 to 0xEF. -/
def opcodeRowE : List Entry :=
  [.byte .cpxImmediate, .byte .sbcIndexedIndirectX, .illegal, .illegal,
   .byte .cpxZeroPage, .byte .sbcZeroPage, .byte .incZeroPage, .illegal,
   .plain .inx, .byte .sbcImmediate, .plain .nop, .illegal,
   .addr .cpxAbsolute, .addr .sbcAbsolute, .addr .incAbsolute, .illegal]

/-- Row F of R84: opcode bytes 0xF0 to 0xFF. -/
def opcodeRowF : List Entry :=
  [.byte .beqRelative, .byte .sbcIndirectIndexedY, .illegal, .illegal,
   .illegal, .byte .sbcZeroPageX, .byte .incZeroPageX, .illegal,
   .plain .sed, .addr .sbcAbsoluteY, .illegal, .illegal,
   .illegal, .addr .sbcAbsoluteX, .addr .incAbsoluteX, .illegal]

/-- The 256-entry opcode table: row = high nibble, column = low nibble (R84). -/
def opcodeTable : List (List Entry) :=
  [opcodeRow0, opcodeRow1, opcodeRow2, opcodeRow3, opcodeRow4, opcodeRow5, opcodeRow6, opcodeRow7,
   opcodeRow8, opcodeRow9, opcodeRowA, opcodeRowB, opcodeRowC, opcodeRowD, opcodeRowE, opcodeRowF]

/-- The table entry of an opcode byte; the opcode byte alone selects it (R83). -/
def entryOf (op : Byte) : Entry :=
  (opcodeTable.getD (op.toNat / 16) []).getD (op.toNat % 16) .illegal

/-- `decode(opcode) -> Option<(Mnemonic, AddressingMode)>` (R83), read off the table. -/
def opcodeMap (op : Byte) : Option Pairing :=
  match entryOf op with
  | .illegal => none
  | .plain i => some i.pairing
  | .byte f => some (f 0#8).pairing
  | .addr f => some (f 0#16).pairing

/-- Why bytes are no instruction. -/
inductive DecodeError where
  /-- The opcode byte has no table entry (R86). -/
  | illegalOpcode (opcode : Byte)
  /-- A byte list ends before the instruction does. Only a list can: a step always has three bytes (R100). -/
  | truncated
  deriving DecidableEq, Repr

/-- Decode the instruction at the head of a byte list and return it with the bytes after it. -/
def decode : List Byte → Except DecodeError (Instr × List Byte)
  | [] => .error .truncated
  | op :: rest =>
    match entryOf op with
    | .illegal => .error (.illegalOpcode op)
    | .plain i => .ok (i, rest)
    | .byte f =>
      match rest with
      | b1 :: rest => .ok (f b1, rest)
      | [] => .error .truncated
    | .addr f =>
      match rest with
      | b1 :: b2 :: rest => .ok (f (makeAddress b1 b2), rest)
      | _ => .error .truncated

/-- The instruction a step executes, from the three bytes it always reads (R100, R101); bytes past its length are ignored. -/
def decodeFetched (op b1 b2 : Byte) : Except DecodeError Instr :=
  match decode [op, b1, b2] with
  | .ok (i, _) => .ok i
  | .error e => .error e

/-- Byte `k` of an instruction whose first `nbits` bits are `w` and whose later bits are 0, numbered as
spec/opcode_table.json numbers them: byte 0, at the lowest address, holds bits 7..0. -/
def tableByte (nbits w k : Nat) : Byte := BitVec.ofNat 8 ((w % 2 ^ nbits) >>> (8 * k))

/-- What the decoder reads from an instruction whose bits are `w`, numbered as spec/opcode_table.json numbers them. -/
def decodeTableWord (nbits w : Nat) : Option Instr :=
  match decodeFetched (tableByte nbits w 0) (tableByte nbits w 1) (tableByte nbits w 2) with
  | .ok i => some i
  | .error _ => none

/-- The opcode byte of an instruction (R85, and the Encoding line of its own rule). -/
def Instr.opcode : Instr → Byte
  | .ldaImmediate _ => 0xA9#8
  | .ldaZeroPage _ => 0xA5#8
  | .ldaZeroPageX _ => 0xB5#8
  | .ldaIndexedIndirectX _ => 0xA1#8
  | .ldaIndirectIndexedY _ => 0xB1#8
  | .ldaAbsolute _ => 0xAD#8
  | .ldaAbsoluteX _ => 0xBD#8
  | .ldaAbsoluteY _ => 0xB9#8
  | .ldxImmediate _ => 0xA2#8
  | .ldxZeroPage _ => 0xA6#8
  | .ldxZeroPageY _ => 0xB6#8
  | .ldxAbsolute _ => 0xAE#8
  | .ldxAbsoluteY _ => 0xBE#8
  | .ldyImmediate _ => 0xA0#8
  | .ldyZeroPage _ => 0xA4#8
  | .ldyZeroPageX _ => 0xB4#8
  | .ldyAbsolute _ => 0xAC#8
  | .ldyAbsoluteX _ => 0xBC#8
  | .staZeroPage _ => 0x85#8
  | .staZeroPageX _ => 0x95#8
  | .staIndexedIndirectX _ => 0x81#8
  | .staIndirectIndexedY _ => 0x91#8
  | .staAbsolute _ => 0x8D#8
  | .staAbsoluteX _ => 0x9D#8
  | .staAbsoluteY _ => 0x99#8
  | .stxZeroPage _ => 0x86#8
  | .stxZeroPageY _ => 0x96#8
  | .stxAbsolute _ => 0x8E#8
  | .styZeroPage _ => 0x84#8
  | .styZeroPageX _ => 0x94#8
  | .styAbsolute _ => 0x8C#8
  | .tax => 0xAA#8
  | .txa => 0x8A#8
  | .tay => 0xA8#8
  | .tya => 0x98#8
  | .tsx => 0xBA#8
  | .txs => 0x9A#8
  | .inx => 0xE8#8
  | .iny => 0xC8#8
  | .dex => 0xCA#8
  | .dey => 0x88#8
  | .incZeroPage _ => 0xE6#8
  | .incZeroPageX _ => 0xF6#8
  | .incAbsolute _ => 0xEE#8
  | .incAbsoluteX _ => 0xFE#8
  | .decZeroPage _ => 0xC6#8
  | .decZeroPageX _ => 0xD6#8
  | .decAbsolute _ => 0xCE#8
  | .decAbsoluteX _ => 0xDE#8
  | .pha => 0x48#8
  | .pla => 0x68#8
  | .php => 0x08#8
  | .plp => 0x28#8
  | .jmpAbsolute _ => 0x4C#8
  | .jmpIndirect _ => 0x6C#8
  | .nop => 0xEA#8
  | .brk => 0x00#8
  | .jsrAbsolute _ => 0x20#8
  | .rts => 0x60#8
  | .rti => 0x40#8
  | .bplRelative _ => 0x10#8
  | .bmiRelative _ => 0x30#8
  | .bvcRelative _ => 0x50#8
  | .bvsRelative _ => 0x70#8
  | .bccRelative _ => 0x90#8
  | .bcsRelative _ => 0xB0#8
  | .bneRelative _ => 0xD0#8
  | .beqRelative _ => 0xF0#8
  | .adcImmediate _ => 0x69#8
  | .adcZeroPage _ => 0x65#8
  | .adcZeroPageX _ => 0x75#8
  | .adcIndexedIndirectX _ => 0x61#8
  | .adcIndirectIndexedY _ => 0x71#8
  | .adcAbsolute _ => 0x6D#8
  | .adcAbsoluteX _ => 0x7D#8
  | .adcAbsoluteY _ => 0x79#8
  | .sbcImmediate _ => 0xE9#8
  | .sbcZeroPage _ => 0xE5#8
  | .sbcZeroPageX _ => 0xF5#8
  | .sbcIndexedIndirectX _ => 0xE1#8
  | .sbcIndirectIndexedY _ => 0xF1#8
  | .sbcAbsolute _ => 0xED#8
  | .sbcAbsoluteX _ => 0xFD#8
  | .sbcAbsoluteY _ => 0xF9#8
  | .andImmediate _ => 0x29#8
  | .andZeroPage _ => 0x25#8
  | .andZeroPageX _ => 0x35#8
  | .andIndexedIndirectX _ => 0x21#8
  | .andIndirectIndexedY _ => 0x31#8
  | .andAbsolute _ => 0x2D#8
  | .andAbsoluteX _ => 0x3D#8
  | .andAbsoluteY _ => 0x39#8
  | .oraImmediate _ => 0x09#8
  | .oraZeroPage _ => 0x05#8
  | .oraZeroPageX _ => 0x15#8
  | .oraIndexedIndirectX _ => 0x01#8
  | .oraIndirectIndexedY _ => 0x11#8
  | .oraAbsolute _ => 0x0D#8
  | .oraAbsoluteX _ => 0x1D#8
  | .oraAbsoluteY _ => 0x19#8
  | .eorImmediate _ => 0x49#8
  | .eorZeroPage _ => 0x45#8
  | .eorZeroPageX _ => 0x55#8
  | .eorIndexedIndirectX _ => 0x41#8
  | .eorIndirectIndexedY _ => 0x51#8
  | .eorAbsolute _ => 0x4D#8
  | .eorAbsoluteX _ => 0x5D#8
  | .eorAbsoluteY _ => 0x59#8
  | .cmpImmediate _ => 0xC9#8
  | .cmpZeroPage _ => 0xC5#8
  | .cmpZeroPageX _ => 0xD5#8
  | .cmpIndexedIndirectX _ => 0xC1#8
  | .cmpIndirectIndexedY _ => 0xD1#8
  | .cmpAbsolute _ => 0xCD#8
  | .cmpAbsoluteX _ => 0xDD#8
  | .cmpAbsoluteY _ => 0xD9#8
  | .cpxImmediate _ => 0xE0#8
  | .cpxZeroPage _ => 0xE4#8
  | .cpxAbsolute _ => 0xEC#8
  | .cpyImmediate _ => 0xC0#8
  | .cpyZeroPage _ => 0xC4#8
  | .cpyAbsolute _ => 0xCC#8
  | .bitZeroPage _ => 0x24#8
  | .bitAbsolute _ => 0x2C#8
  | .aslAccumulator => 0x0A#8
  | .aslZeroPage _ => 0x06#8
  | .aslZeroPageX _ => 0x16#8
  | .aslAbsolute _ => 0x0E#8
  | .aslAbsoluteX _ => 0x1E#8
  | .lsrAccumulator => 0x4A#8
  | .lsrZeroPage _ => 0x46#8
  | .lsrZeroPageX _ => 0x56#8
  | .lsrAbsolute _ => 0x4E#8
  | .lsrAbsoluteX _ => 0x5E#8
  | .rolAccumulator => 0x2A#8
  | .rolZeroPage _ => 0x26#8
  | .rolZeroPageX _ => 0x36#8
  | .rolAbsolute _ => 0x2E#8
  | .rolAbsoluteX _ => 0x3E#8
  | .rorAccumulator => 0x6A#8
  | .rorZeroPage _ => 0x66#8
  | .rorZeroPageX _ => 0x76#8
  | .rorAbsolute _ => 0x6E#8
  | .rorAbsoluteX _ => 0x7E#8
  | .clc => 0x18#8
  | .sec => 0x38#8
  | .cli => 0x58#8
  | .sei => 0x78#8
  | .cld => 0xD8#8
  | .sed => 0xF8#8
  | .clv => 0xB8#8

/-- The operand bytes of an instruction in address order; the 3-byte forms have the high byte first (R81, R82). -/
def Instr.operandBytes : Instr → List Byte
  | .tax | .txa | .tay | .tya | .tsx | .txs | .inx | .iny | .dex | .dey | .pha | .pla | .php | .plp | .nop | .brk
  | .rts | .rti | .aslAccumulator | .lsrAccumulator | .rolAccumulator | .rorAccumulator | .clc | .sec | .cli | .sei
  | .cld | .sed | .clv => []
  | .ldaImmediate v | .ldaZeroPage v | .ldaZeroPageX v | .ldaIndexedIndirectX v | .ldaIndirectIndexedY v
  | .ldxImmediate v | .ldxZeroPage v | .ldxZeroPageY v | .ldyImmediate v | .ldyZeroPage v | .ldyZeroPageX v
  | .staZeroPage v | .staZeroPageX v | .staIndexedIndirectX v | .staIndirectIndexedY v | .stxZeroPage v
  | .stxZeroPageY v | .styZeroPage v | .styZeroPageX v | .incZeroPage v | .incZeroPageX v | .decZeroPage v
  | .decZeroPageX v | .bplRelative v | .bmiRelative v | .bvcRelative v | .bvsRelative v | .bccRelative v
  | .bcsRelative v | .bneRelative v | .beqRelative v | .adcImmediate v | .adcZeroPage v | .adcZeroPageX v
  | .adcIndexedIndirectX v | .adcIndirectIndexedY v | .sbcImmediate v | .sbcZeroPage v | .sbcZeroPageX v
  | .sbcIndexedIndirectX v | .sbcIndirectIndexedY v | .andImmediate v | .andZeroPage v | .andZeroPageX v
  | .andIndexedIndirectX v | .andIndirectIndexedY v | .oraImmediate v | .oraZeroPage v | .oraZeroPageX v
  | .oraIndexedIndirectX v | .oraIndirectIndexedY v | .eorImmediate v | .eorZeroPage v | .eorZeroPageX v
  | .eorIndexedIndirectX v | .eorIndirectIndexedY v | .cmpImmediate v | .cmpZeroPage v | .cmpZeroPageX v
  | .cmpIndexedIndirectX v | .cmpIndirectIndexedY v | .cpxImmediate v | .cpxZeroPage v | .cpyImmediate v
  | .cpyZeroPage v | .bitZeroPage v | .aslZeroPage v | .aslZeroPageX v | .lsrZeroPage v | .lsrZeroPageX v
  | .rolZeroPage v | .rolZeroPageX v | .rorZeroPage v | .rorZeroPageX v => [v]
  | .ldaAbsolute v | .ldaAbsoluteX v | .ldaAbsoluteY v | .ldxAbsolute v | .ldxAbsoluteY v | .ldyAbsolute v
  | .ldyAbsoluteX v | .staAbsolute v | .staAbsoluteX v | .staAbsoluteY v | .stxAbsolute v | .styAbsolute v
  | .incAbsolute v | .incAbsoluteX v | .decAbsolute v | .decAbsoluteX v | .jmpAbsolute v | .jmpIndirect v
  | .jsrAbsolute v | .adcAbsolute v | .adcAbsoluteX v | .adcAbsoluteY v | .sbcAbsolute v | .sbcAbsoluteX v
  | .sbcAbsoluteY v | .andAbsolute v | .andAbsoluteX v | .andAbsoluteY v | .oraAbsolute v | .oraAbsoluteX v
  | .oraAbsoluteY v | .eorAbsolute v | .eorAbsoluteX v | .eorAbsoluteY v | .cmpAbsolute v | .cmpAbsoluteX v
  | .cmpAbsoluteY v | .cpxAbsolute v | .cpyAbsolute v | .bitAbsolute v | .aslAbsolute v | .aslAbsoluteX v
  | .lsrAbsolute v | .lsrAbsoluteX v | .rolAbsolute v | .rolAbsoluteX v | .rorAbsolute v | .rorAbsoluteX v => [hiByte v, loByte v]

/-- The bytes of an instruction in address order (R80, R82). -/
def encode (i : Instr) : List Byte := i.opcode :: i.operandBytes

end Sys2Proof
end

