-- ==== Sys2Proof/Config.lean ====
section
/-! DEFINITION. The five named parameters the spec leaves to the model's user (spec/00_scope.md R8), each with all its
values and the default the spec chooses. They are configuration fixed for a run, not state a program can write
(spec/10_state.md R34); log entry 1 says why the machine's State carries them. -/

namespace Sys2Proof

/-- `PTR_ORDER`: which byte of a pointer held in memory is the high one (R8, R113; decision D3). -/
inductive PtrOrder where
  /-- The byte at the first address is the high byte (the default). -/
  | hiFirst
  /-- The byte at the first address is the low byte (the NMOS order). -/
  | loFirst
  deriving DecidableEq, Repr

/-- `ILLEGAL_OPCODE_POLICY`: what a step does on an opcode byte with no table entry (R8, R260, R261; decision D6). -/
inductive IllegalOpcodePolicy where
  /-- The step faults with IllegalOpcode (the default). -/
  | fault
  /-- The step completes, changes nothing and leaves PC where it is. -/
  | stallNoOp
  deriving DecidableEq, Repr

/-- `DECIMAL_POLICY`: what ADC and SBC do while D = 1 (R8, R200; decision D12). -/
inductive DecimalPolicy where
  /-- D is ignored and the arithmetic is binary (the default). -/
  | binary
  /-- The step faults with UnmodelledDecimal. -/
  | fault
  deriving DecidableEq, Repr

/-- The five parameters of R8; "no other value is left to the implementation". -/
structure Config where
  /-- `ZP_INDEXED_WRAP`: does the ZeroPageX and ZeroPageY sum stay in page 0 (R109; decision D2). -/
  zpIndexedWrap : Bool
  /-- `PTR_ORDER` (R113; decision D3). -/
  ptrOrder : PtrOrder
  /-- `JMP_IND_PAGE_WRAP`: does the second byte of an Indirect pointer stay in the pointer's page (R114; decision D5). -/
  jmpIndPageWrap : Bool
  /-- `ILLEGAL_OPCODE_POLICY` (R260, R261; decision D6). -/
  illegalOpcodePolicy : IllegalOpcodePolicy
  /-- `DECIMAL_POLICY` (R200, R262; decision D12). -/
  decimalPolicy : DecimalPolicy
  deriving DecidableEq, Repr

/-- The values the spec chooses when the model does not override them (the default column of R8). -/
def Config.default : Config where
  zpIndexedWrap := true
  ptrOrder := .hiFirst
  jmpIndPageWrap := false
  illegalOpcodePolicy := .fault
  decimalPolicy := .binary

end Sys2Proof
end

