-- ==== Sys2Proof/Machine/State.lean ====
section
/-! DEFINITION. The machine's state as plain data (spec/10_state.md R20, R27, R37 and spec/20_memory.md R50), its value at
reset (R36, R51), the reasons a step can stop, and the errors of the host's bulk memory operations. -/

namespace Sys2Proof.Machine

/-- The memory M (R50): the cells that do not hold 0x00, as (address, byte) pairs with strictly rising addresses. A cell
that is not listed reads 0x00, the value every cell has at creation (R51). -/
abbrev Memory := List Host.Cell

/-- CPU state and memory (R37), with the run's parameters and the latest step's output.
The fields `cfg` and `result` are the model's own: see log entries 1 and 2. -/
structure State where
  /-- Accumulator A (R22). -/
  a : Byte
  /-- Index register X (R23). -/
  x : Byte
  /-- Index register Y (R24). -/
  y : Byte
  /-- Stack pointer S, the offset into page 1; the 16-bit SP is the view `0x0100 | S` (R25). -/
  s : Byte
  /-- Program counter: the address of the next instruction's opcode byte (R26). -/
  pc : Word
  /-- Negative (R27). -/
  flagN : Bool
  /-- Overflow (R27). -/
  flagV : Bool
  /-- Unused, a stored cell like the others (R27, decision D32). -/
  flagU : Bool
  /-- Break, a stored cell like the others (R27, decision D32). -/
  flagB : Bool
  /-- Decimal (R27). -/
  flagD : Bool
  /-- Interrupt-disable (R27); it masks nothing (R263). -/
  flagI : Bool
  /-- Zero (R27). -/
  flagZ : Bool
  /-- Carry (R27). -/
  flagC : Bool
  /-- The 65536 cells (R50). -/
  mem : Memory
  /-- The five parameters, fixed for a run (R8, R34). DESIGN CHOICE (log entry 1, safe): carried here because a step is a
  function of CPU state, memory and parameters (R37) and `step` takes one argument. -/
  cfg : Config
  /-- The result byte of the latest step (R118, R119): an output to the host, read by no instruction. DESIGN CHOICE (log
  entry 2, safe): carried here because the outcome `next` has no place of its own for it. -/
  result : Option Byte
  deriving DecidableEq, Repr

/-- The state after construction and reset: the table of R36 (A = X = Y = 0, S = 0xFF, PC = 0, all flags 0), memory
zero-filled (R51, R282), the parameters at the defaults of R8. -/
def State.reset : State where
  a := 0x00#8
  x := 0x00#8
  y := 0x00#8
  s := 0xFF#8
  pc := 0x0000#16
  flagN := false
  flagV := false
  flagU := false
  flagB := false
  flagD := false
  flagI := false
  flagZ := false
  flagC := false
  mem := []
  cfg := Config.default
  result := none

/-- The faults a step can report (R118): each is the value returned to the host, and the state it leaves is exactly the
state before the step (R268). Both are SAFE: the spec's machine reports them too. -/
inductive Fault where
  /-- Fault kind 1 (R260). Raised by `step` when the byte at PC has no opcode-table entry and ILLEGAL_OPCODE_POLICY is
  Fault. Safe: the spec's machine ends the step with this fault. -/
  | illegalOpcode (address : Word) (opcode : Byte)
  /-- Fault kind 2 (R262). Raised by the ADC and SBC meanings when D = 1 and DECIMAL_POLICY is Fault. Safe: the spec's
  machine ends the step with this fault. -/
  | unmodelledDecimal (address : Word) (opcode : Byte)
  deriving DecidableEq, Repr

/-- Reasons to give an instruction no meaning. No arm of `exec` uses it: all 151 instructions are modelled. -/
inductive Refusal where
  /-- Raised by an arm of `exec` whose instruction has no meaning yet (none now). Safe: no claim can be proved of it. -/
  | notModelled (mnemonic : String)
  deriving DecidableEq, Repr

/-- The errors of the host's bulk memory operations; they are no CPU exceptions (R265). -/
inductive HostError where
  /-- `set_bytes` past the end of memory (R60). -/
  | outOfRange
  /-- `load` from a source shorter than 65536 bytes (R63). -/
  | io
  deriving DecidableEq, Repr

/-- What a step or an instruction's meaning answers. -/
abbrev Answer := Host.Outcome State Fault Refusal

end Sys2Proof.Machine
end

