-- ==== Sys2Proof/Machine/Ops.lean ====
section
/-! DEFINITION. The named operations over memory, the stack and the program counter, the fetch of a step, and the raising of
a fault (spec/20_memory.md R50 to R53, spec/44_stack.md R170, R171, spec/40_engine.md R100, R102, R119,
spec/60_exceptions.md R260 to R262, R268). -/

namespace Sys2Proof.Machine

/-! ### Memory as a list of cells -/

/-- The byte at an address; a cell that is not listed holds 0x00, as at creation (R51). -/
def Memory.read : Memory → Nat → Byte
  | [], _ => 0#8
  | (k, v) :: rest, addr => if k = addr then v else Memory.read rest addr

/-- The memory without a listed cell at `addr`: that cell reads 0x00. -/
def Memory.erase : Memory → Nat → Memory
  | [], _ => []
  | (k, v) :: rest, addr => if k = addr then Memory.erase rest addr else (k, v) :: Memory.erase rest addr

/-- Put a cell at its place in the address order. -/
def Memory.insert : Memory → Nat → Byte → Memory
  | [], addr, v => [(addr, v)]
  | (k, w) :: rest, addr, v =>
    if addr < k then (addr, v) :: (k, w) :: rest else (k, w) :: Memory.insert rest addr v

/-- The memory after its cell at `addr` is replaced by `v`; writing 0x00 leaves the cell unlisted. -/
def Memory.write (m : Memory) (addr : Nat) (v : Byte) : Memory :=
  if v = 0#8 then m.erase addr else (m.erase addr).insert addr v

/-- Are the addresses of a cell list strictly rising, the first of them at least `low`, all below 65536, and is no listed
byte 0x00? -/
def Memory.wfFrom : Nat → Memory → Bool
  | _, [] => true
  | low, (k, v) :: rest => decide (low ≤ k) && decide (k < 65536) && decide (v ≠ 0#8) && Memory.wfFrom (k + 1) rest

/-- The canonical form: strictly rising addresses of the 65536 cells of R50, no cell listed that holds 0x00. -/
def Memory.wf (m : Memory) : Bool := Memory.wfFrom 0 m

/-- `MemRead(addr, 1)`, the document's `get_byte`: total, and it writes nothing (R12, R52). -/
def State.read (st : State) (addr : Word) : Byte := st.mem.read addr.toNat

/-- `MemWrite(addr, 1, v)`, the document's `set_byte`: total, and it changes no other cell (R12, R53). -/
def State.write (st : State) (addr : Word) (v : Byte) : State := { st with mem := st.mem.write addr.toNat v }

/-! ### The 16-bit notation of R10 -/

/-- `zext_16(v)`: a u8 as a u16 (R10). -/
def zext16 (v : Byte) : Word := v.zeroExtend 16

/-- `sext_16(v)`: a u8 read as two's complement, modulo 65536 (R10). -/
def sext16 (v : Byte) : Word := v.signExtend 16

/-! ### Stack discipline -/

/-- The 16-bit view of the stack pointer, `0x0100 | S`, always in page 1 (R25). -/
def State.sp (st : State) : Word := 0x0100#16 ||| zext16 st.s

/-- `Push(v)`: write at the stack pointer, then decrement S modulo 256, so it wraps within page 1 (R170). -/
def State.push (st : State) (v : Byte) : State := { st.write st.sp v with s := st.s - 1#8 }

/-- The state part of `Pull()`: increment S modulo 256 (R171). -/
def State.popped (st : State) : State := { st with s := st.s + 1#8 }

/-- `Pull()`: increment S modulo 256, then read at the new address; the cell keeps its value (R171). -/
def State.pull (st : State) : Byte × State := (st.popped.read st.popped.sp, st.popped)

/-! ### The end of a step -/

/-- Every instruction ends by writing PC (R102) and by giving the host its optional result byte (R119). -/
def State.finish (st : State) (target : Word) (res : Option Byte) : State := { st with pc := target, result := res }

/-- The end of an instruction that does not transfer control and returns no byte: `pc <- PC +16 len` (R102). -/
def State.advance (st : State) (len : Word) : State := st.finish (st.pc + len) none

/-! ### Fetch -/

/-- The opcode byte at PC, and the two bytes after it, which every step reads, modulo 65536 (R100). -/
def State.fetched (st : State) : Byte × Byte × Byte := (st.read st.pc, st.read (st.pc + 1#16), st.read (st.pc + 2#16))

/-- The state with three bytes written where the next step fetches. -/
def State.withFetched (st : State) (op b1 b2 : Byte) : State :=
  ((st.write st.pc op).write (st.pc + 1#16) b1).write (st.pc + 2#16) b2

/-! ### Faults: the block's only exceptions

A fault saves nothing into the machine, changes no state, pushes nothing and jumps nowhere: it is the value returned to the
host, holding the address and the opcode byte of the faulting instruction (R268). There is no handler and no return from a
fault in the block (R269). -/

/-- The kinds of synchronous fault (R260, R262). -/
inductive FaultKind where
  | illegalOpcode
  | unmodelledDecimal
  deriving DecidableEq, Repr

/-- Raise a fault: the step ends with it and no effect; its address is the PC of the faulting fetch (R260, R262, R268). -/
def raise (kind : FaultKind) (op : Byte) (st : State) : Answer :=
  match kind with
  | .illegalOpcode => .fault (.illegalOpcode st.pc op)
  | .unmodelledDecimal => .fault (.unmodelledDecimal st.pc op)

/-- The illegal-opcode path of a step (R101): the fault of R260, or under StallNoOp a step that changes nothing, leaves PC
and returns no byte (R261). -/
def illegalOpcodeStep (op : Byte) (st : State) : Answer :=
  match st.cfg.illegalOpcodePolicy with
  | .fault => raise .illegalOpcode op st
  | .stallNoOp => .next (st.finish st.pc none)

end Sys2Proof.Machine
end

