-- ==== Sys2Proof/Machine/Flags.lean ====
section
/-! DEFINITION. The flag computations: the load-like update (spec/00_scope.md R13), the status byte (spec/10_state.md R29 to
R32), carry and overflow of an addition (spec/46_arith_logic.md R201), the compare (R207), the counts of INC and DEC and the one-bit shifts
(spec/47_shift_rotate.md R220 to R223). -/

namespace Sys2Proof.Machine

/-- `SetNZ(v)`: N is bit 7 of v, Z is set iff v = 0 (R13). -/
def State.setNZ (st : State) (v : Byte) : State := { st with flagN := v.getLsbD 7, flagZ := v == 0#8 }

/-- One flag at its place in the status byte. -/
def flagBit (f : Bool) (k : Nat) : Byte := (BitVec.ofBool f).zeroExtend 8 <<< k

/-- `flags_to_byte()`: N at bit 0, V 1, U 2, B 3, D 4, I 5, Z 6, C at bit 7 (R29, R31). -/
def State.flagsToByte (st : State) : Byte :=
  flagBit st.flagN 0 ||| flagBit st.flagV 1 ||| flagBit st.flagU 2 ||| flagBit st.flagB 3 |||
    flagBit st.flagD 4 ||| flagBit st.flagI 5 ||| flagBit st.flagZ 6 ||| flagBit st.flagC 7

/-- `flags_from_byte(b)`: all eight flags, with no bit ignored or forced (R32). -/
def State.flagsFromByte (st : State) (b : Byte) : State :=
  { st with
    flagN := b.getLsbD 0, flagV := b.getLsbD 1, flagU := b.getLsbD 2, flagB := b.getLsbD 3,
    flagD := b.getLsbD 4, flagI := b.getLsbD 5, flagZ := b.getLsbD 6, flagC := b.getLsbD 7 }

/-- The exact sum of two u8 and a carry-in, 0 to 511 (R201). -/
def sumOf (p q : Byte) (carry : Bool) : Nat := p.toNat + q.toNat + carry.toNat

/-- The signed overflow of an addition with result `r`: both operands differ from it in bit 7 (R201). -/
def overflowOf (p q r : Byte) : Bool := ((p ^^^ r) &&& (q ^^^ r) &&& 0x80#8) != 0#8

/-- A <- A + q + C modulo 256 with C, V, N and Z from it: the arithmetic of ADC with q the operand (R202) and of SBC with q
its complement (R203). -/
def State.addToA (st : State) (q : Byte) : State :=
  let sum := sumOf st.a q st.flagC
  let r := BitVec.ofNat 8 sum
  { st with a := r, flagC := decide (sum > 255), flagV := overflowOf st.a q r }.setNZ r

/-- `Compare(reg, m)`: C iff reg >= m unsigned, Z iff equal, N is bit 7 of the difference (R207). -/
def State.compare (st : State) (reg m : Byte) : State :=
  { st with flagC := decide (m.toNat ≤ reg.toNat), flagZ := reg == m, flagN := (reg - m).getLsbD 7 }

/-- `v +8 1`, the result of INC on a cell (R164). -/
def incOf (v : Byte) : Byte := v + 1#8

/-- `v -8 1`, the result of DEC on a cell (R165). -/
def decOf (v : Byte) : Byte := v - 1#8

/-- A one-bit shift or rotate: from the operand and the carry-in to the result and the carry-out (R220 to R223). -/
abbrev Shifter := Byte → Bool → Byte × Bool

/-- ASL: bit 0 becomes 0, bit 7 goes to C (R220). -/
def aslOf : Shifter := fun v _ => (v <<< 1, v.getLsbD 7)

/-- LSR: bit 7 becomes 0, bit 0 goes to C (R221). -/
def lsrOf : Shifter := fun v _ => (v >>> 1, v.getLsbD 0)

/-- ROL: the old carry enters bit 0, bit 7 goes to C (R222). -/
def rolOf : Shifter := fun v cin => ((v <<< 1) ||| flagBit cin 0, v.getLsbD 7)

/-- ROR: the old carry enters bit 7, bit 0 goes to C (R223). -/
def rorOf : Shifter := fun v cin => ((v >>> 1) ||| flagBit cin 7, v.getLsbD 0)

end Sys2Proof.Machine
end

