-- ==== Sys2Proof/Machine/Operands.lean ====
section
/-! DEFINITION. The addressing-mode resolver: the effective address of each memory mode, from the operand and the state at
the start of the step (spec/40_engine.md R105 to R117). It writes nothing. Immediate operands are the byte itself (R107),
Accumulator operands are A (R106), and the branch target of Relative (R111) is in Control.lean (R186). -/

namespace Sys2Proof.Machine

/-- ZeroPage: the operand byte is the low byte of a page-0 address (R108). -/
def eaZeroPage (zp : Byte) : Word := zext16 zp

/-- The sum of ZeroPageX and ZeroPageY: within page 0, or 16 bits wide when ZP_INDEXED_WRAP is false (R109). -/
def zeroPageSum (cfg : Config) (zp idx : Byte) : Word :=
  if cfg.zpIndexedWrap then zext16 (zp + idx) else zext16 zp + zext16 idx

/-- ZeroPageX (R109). -/
def eaZeroPageX (st : State) (zp : Byte) : Word := zeroPageSum st.cfg zp st.x

/-- ZeroPageY (R109). -/
def eaZeroPageY (st : State) (zp : Byte) : Word := zeroPageSum st.cfg zp st.y

/-- Absolute: the operand as R82 assembles it (R110). -/
def eaAbsolute (addr : Word) : Word := addr

/-- AbsoluteX: a 16-bit sum modulo 65536 (R112). -/
def eaAbsoluteX (st : State) (addr : Word) : Word := addr + zext16 st.x

/-- AbsoluteY: a 16-bit sum modulo 65536 (R112). -/
def eaAbsoluteY (st : State) (addr : Word) : Word := addr + zext16 st.y

/-- `ReadPtr(a0, a1)`: a 16-bit pointer held in two cells, in the order PTR_ORDER gives (R113). -/
def readPtr (st : State) (a0 a1 : Word) : Word :=
  match st.cfg.ptrOrder with
  | .hiFirst => makeAddress (st.read a0) (st.read a1)
  | .loFirst => makeAddress (st.read a1) (st.read a0)

/-- The address of an Indirect pointer's second byte: the next cell, or the next within the page when JMP_IND_PAGE_WRAP is
true (R114). -/
def ptrSuccessor (cfg : Config) (ptr : Word) : Word :=
  if cfg.jmpIndPageWrap then makeAddress (hiByte ptr) (loByte ptr + 1#8) else ptr + 1#16

/-- Indirect, used only by JMP (R114). -/
def eaIndirect (st : State) (ptr : Word) : Word := readPtr st ptr (ptrSuccessor st.cfg ptr)

/-- The pointer held in page 0 at `p` and its successor, both masked into page 0 (R115, R116). -/
def zeroPagePtr (st : State) (p : Byte) : Word := readPtr st (zext16 p) (zext16 (p + 1#8))

/-- IndexedIndirectX, "(zp,X)" (R115). -/
def eaIndexedIndirectX (st : State) (zp : Byte) : Word := zeroPagePtr st (zp + st.x)

/-- IndirectIndexedY, "(zp),Y": the base read from page 0 plus Y, modulo 65536 (R116). -/
def eaIndirectIndexedY (st : State) (zp : Byte) : Word := zeroPagePtr st zp + zext16 st.y

end Sys2Proof.Machine
end

