-- ==== Sys2Proof/Machine/ArithLogic.lean ====
section
/-! DEFINITION. ALU arithmetic, logic and compare: the meaning of each instruction of spec/46_arith_logic.md (R200 to R211), one definition an instruction. -/

namespace Sys2Proof.Machine

/-- `DecimalCheck()` before the effect of ADC or SBC (R200): the fault of R262 when D = 1 and DECIMAL_POLICY is Fault. -/
def decimalChecked (op : Byte) (st : State) (done : State) : Answer :=
  if st.flagD && st.cfg.decimalPolicy == .fault then raise .unmodelledDecimal op st else .next done

/-- ADC with opcode `op` and operand `m` (R202). -/
def adc (op m : Byte) (len : Word) (st : State) : Answer := decimalChecked op st ((st.addToA m).advance len)

/-- SBC with opcode `op` and operand `m`: the addition of the operand's complement (R203). -/
def sbc (op m : Byte) (len : Word) (st : State) : Answer := decimalChecked op st ((st.addToA (~~~m)).advance len)

/-- AND, ORA and EOR: a result into A, N and Z from it (R204 to R206). -/
def logicA (r : Byte) (len : Word) (st : State) : Answer := .next (({ st with a := r }.setNZ r).advance len)

/-- CMP, CPX and CPY: the flags of R207 and nothing else (R208 to R210). -/
def compareWith (reg m : Byte) (len : Word) (st : State) : Answer := .next ((st.compare reg m).advance len)

/-- BIT with memory operand `m`: Z from A & m, N and V from bits 7 and 6 of m (R211). -/
def bitTest (m : Byte) (len : Word) (st : State) : Answer :=
  .next ({ st with flagZ := (st.a &&& m) == 0#8, flagN := m.getLsbD 7, flagV := m.getLsbD 6 }.advance len)

/-- `ADC #$ii`, 0x69 Immediate (R202). -/
def execAdcImmediate (imm : Byte) (st : State) : Answer := adc 0x69#8 imm 2#16 st

/-- `ADC $zz`, 0x65 ZeroPage (R202). -/
def execAdcZeroPage (zp : Byte) (st : State) : Answer := adc 0x65#8 (st.read (eaZeroPage zp)) 2#16 st

/-- `ADC $zz,X`, 0x75 ZeroPageX (R202). -/
def execAdcZeroPageX (zp : Byte) (st : State) : Answer := adc 0x75#8 (st.read (eaZeroPageX st zp)) 2#16 st

/-- `ADC ($zz,X)`, 0x61 IndexedIndirectX (R202). -/
def execAdcIndexedIndirectX (zp : Byte) (st : State) : Answer :=
  adc 0x61#8 (st.read (eaIndexedIndirectX st zp)) 2#16 st

/-- `ADC ($zz),Y`, 0x71 IndirectIndexedY (R202). -/
def execAdcIndirectIndexedY (zp : Byte) (st : State) : Answer :=
  adc 0x71#8 (st.read (eaIndirectIndexedY st zp)) 2#16 st

/-- `ADC $hhll`, 0x6D Absolute (R202). -/
def execAdcAbsolute (addr : Word) (st : State) : Answer := adc 0x6D#8 (st.read (eaAbsolute addr)) 3#16 st

/-- `ADC $hhll,X`, 0x7D AbsoluteX (R202). -/
def execAdcAbsoluteX (addr : Word) (st : State) : Answer := adc 0x7D#8 (st.read (eaAbsoluteX st addr)) 3#16 st

/-- `ADC $hhll,Y`, 0x79 AbsoluteY (R202). -/
def execAdcAbsoluteY (addr : Word) (st : State) : Answer := adc 0x79#8 (st.read (eaAbsoluteY st addr)) 3#16 st

/-- `SBC #$ii`, 0xE9 Immediate (R203). -/
def execSbcImmediate (imm : Byte) (st : State) : Answer := sbc 0xE9#8 imm 2#16 st

/-- `SBC $zz`, 0xE5 ZeroPage (R203). -/
def execSbcZeroPage (zp : Byte) (st : State) : Answer := sbc 0xE5#8 (st.read (eaZeroPage zp)) 2#16 st

/-- `SBC $zz,X`, 0xF5 ZeroPageX (R203). -/
def execSbcZeroPageX (zp : Byte) (st : State) : Answer := sbc 0xF5#8 (st.read (eaZeroPageX st zp)) 2#16 st

/-- `SBC ($zz,X)`, 0xE1 IndexedIndirectX (R203). -/
def execSbcIndexedIndirectX (zp : Byte) (st : State) : Answer :=
  sbc 0xE1#8 (st.read (eaIndexedIndirectX st zp)) 2#16 st

/-- `SBC ($zz),Y`, 0xF1 IndirectIndexedY (R203). -/
def execSbcIndirectIndexedY (zp : Byte) (st : State) : Answer :=
  sbc 0xF1#8 (st.read (eaIndirectIndexedY st zp)) 2#16 st

/-- `SBC $hhll`, 0xED Absolute (R203). -/
def execSbcAbsolute (addr : Word) (st : State) : Answer := sbc 0xED#8 (st.read (eaAbsolute addr)) 3#16 st

/-- `SBC $hhll,X`, 0xFD AbsoluteX (R203). -/
def execSbcAbsoluteX (addr : Word) (st : State) : Answer := sbc 0xFD#8 (st.read (eaAbsoluteX st addr)) 3#16 st

/-- `SBC $hhll,Y`, 0xF9 AbsoluteY (R203). -/
def execSbcAbsoluteY (addr : Word) (st : State) : Answer := sbc 0xF9#8 (st.read (eaAbsoluteY st addr)) 3#16 st

/-- `AND #$ii`, 0x29 Immediate (R204). -/
def execAndImmediate (imm : Byte) (st : State) : Answer := logicA (st.a &&& imm) 2#16 st

/-- `AND $zz`, 0x25 ZeroPage (R204). -/
def execAndZeroPage (zp : Byte) (st : State) : Answer := logicA (st.a &&& st.read (eaZeroPage zp)) 2#16 st

/-- `AND $zz,X`, 0x35 ZeroPageX (R204). -/
def execAndZeroPageX (zp : Byte) (st : State) : Answer := logicA (st.a &&& st.read (eaZeroPageX st zp)) 2#16 st

/-- `AND ($zz,X)`, 0x21 IndexedIndirectX (R204). -/
def execAndIndexedIndirectX (zp : Byte) (st : State) : Answer :=
  logicA (st.a &&& st.read (eaIndexedIndirectX st zp)) 2#16 st

/-- `AND ($zz),Y`, 0x31 IndirectIndexedY (R204). -/
def execAndIndirectIndexedY (zp : Byte) (st : State) : Answer :=
  logicA (st.a &&& st.read (eaIndirectIndexedY st zp)) 2#16 st

/-- `AND $hhll`, 0x2D Absolute (R204). -/
def execAndAbsolute (addr : Word) (st : State) : Answer := logicA (st.a &&& st.read (eaAbsolute addr)) 3#16 st

/-- `AND $hhll,X`, 0x3D AbsoluteX (R204). -/
def execAndAbsoluteX (addr : Word) (st : State) : Answer := logicA (st.a &&& st.read (eaAbsoluteX st addr)) 3#16 st

/-- `AND $hhll,Y`, 0x39 AbsoluteY (R204). -/
def execAndAbsoluteY (addr : Word) (st : State) : Answer := logicA (st.a &&& st.read (eaAbsoluteY st addr)) 3#16 st

/-- `ORA #$ii`, 0x09 Immediate (R205). -/
def execOraImmediate (imm : Byte) (st : State) : Answer := logicA (st.a ||| imm) 2#16 st

/-- `ORA $zz`, 0x05 ZeroPage (R205). -/
def execOraZeroPage (zp : Byte) (st : State) : Answer := logicA (st.a ||| st.read (eaZeroPage zp)) 2#16 st

/-- `ORA $zz,X`, 0x15 ZeroPageX (R205). -/
def execOraZeroPageX (zp : Byte) (st : State) : Answer := logicA (st.a ||| st.read (eaZeroPageX st zp)) 2#16 st

/-- `ORA ($zz,X)`, 0x01 IndexedIndirectX (R205). -/
def execOraIndexedIndirectX (zp : Byte) (st : State) : Answer :=
  logicA (st.a ||| st.read (eaIndexedIndirectX st zp)) 2#16 st

/-- `ORA ($zz),Y`, 0x11 IndirectIndexedY (R205). -/
def execOraIndirectIndexedY (zp : Byte) (st : State) : Answer :=
  logicA (st.a ||| st.read (eaIndirectIndexedY st zp)) 2#16 st

/-- `ORA $hhll`, 0x0D Absolute (R205). -/
def execOraAbsolute (addr : Word) (st : State) : Answer := logicA (st.a ||| st.read (eaAbsolute addr)) 3#16 st

/-- `ORA $hhll,X`, 0x1D AbsoluteX (R205). -/
def execOraAbsoluteX (addr : Word) (st : State) : Answer := logicA (st.a ||| st.read (eaAbsoluteX st addr)) 3#16 st

/-- `ORA $hhll,Y`, 0x19 AbsoluteY (R205). -/
def execOraAbsoluteY (addr : Word) (st : State) : Answer := logicA (st.a ||| st.read (eaAbsoluteY st addr)) 3#16 st

/-- `EOR #$ii`, 0x49 Immediate (R206). -/
def execEorImmediate (imm : Byte) (st : State) : Answer := logicA (st.a ^^^ imm) 2#16 st

/-- `EOR $zz`, 0x45 ZeroPage (R206). -/
def execEorZeroPage (zp : Byte) (st : State) : Answer := logicA (st.a ^^^ st.read (eaZeroPage zp)) 2#16 st

/-- `EOR $zz,X`, 0x55 ZeroPageX (R206). -/
def execEorZeroPageX (zp : Byte) (st : State) : Answer := logicA (st.a ^^^ st.read (eaZeroPageX st zp)) 2#16 st

/-- `EOR ($zz,X)`, 0x41 IndexedIndirectX (R206). -/
def execEorIndexedIndirectX (zp : Byte) (st : State) : Answer :=
  logicA (st.a ^^^ st.read (eaIndexedIndirectX st zp)) 2#16 st

/-- `EOR ($zz),Y`, 0x51 IndirectIndexedY (R206). -/
def execEorIndirectIndexedY (zp : Byte) (st : State) : Answer :=
  logicA (st.a ^^^ st.read (eaIndirectIndexedY st zp)) 2#16 st

/-- `EOR $hhll`, 0x4D Absolute (R206). -/
def execEorAbsolute (addr : Word) (st : State) : Answer := logicA (st.a ^^^ st.read (eaAbsolute addr)) 3#16 st

/-- `EOR $hhll,X`, 0x5D AbsoluteX (R206). -/
def execEorAbsoluteX (addr : Word) (st : State) : Answer := logicA (st.a ^^^ st.read (eaAbsoluteX st addr)) 3#16 st

/-- `EOR $hhll,Y`, 0x59 AbsoluteY (R206). -/
def execEorAbsoluteY (addr : Word) (st : State) : Answer := logicA (st.a ^^^ st.read (eaAbsoluteY st addr)) 3#16 st

/-- `CMP #$ii`, 0xC9 Immediate (R208). -/
def execCmpImmediate (imm : Byte) (st : State) : Answer := compareWith st.a imm 2#16 st

/-- `CMP $zz`, 0xC5 ZeroPage (R208). -/
def execCmpZeroPage (zp : Byte) (st : State) : Answer := compareWith st.a (st.read (eaZeroPage zp)) 2#16 st

/-- `CMP $zz,X`, 0xD5 ZeroPageX (R208). -/
def execCmpZeroPageX (zp : Byte) (st : State) : Answer := compareWith st.a (st.read (eaZeroPageX st zp)) 2#16 st

/-- `CMP ($zz,X)`, 0xC1 IndexedIndirectX (R208). -/
def execCmpIndexedIndirectX (zp : Byte) (st : State) : Answer :=
  compareWith st.a (st.read (eaIndexedIndirectX st zp)) 2#16 st

/-- `CMP ($zz),Y`, 0xD1 IndirectIndexedY (R208). -/
def execCmpIndirectIndexedY (zp : Byte) (st : State) : Answer :=
  compareWith st.a (st.read (eaIndirectIndexedY st zp)) 2#16 st

/-- `CMP $hhll`, 0xCD Absolute (R208). -/
def execCmpAbsolute (addr : Word) (st : State) : Answer := compareWith st.a (st.read (eaAbsolute addr)) 3#16 st

/-- `CMP $hhll,X`, 0xDD AbsoluteX (R208). -/
def execCmpAbsoluteX (addr : Word) (st : State) : Answer := compareWith st.a (st.read (eaAbsoluteX st addr)) 3#16 st

/-- `CMP $hhll,Y`, 0xD9 AbsoluteY (R208). -/
def execCmpAbsoluteY (addr : Word) (st : State) : Answer := compareWith st.a (st.read (eaAbsoluteY st addr)) 3#16 st

/-- `CPX #$ii`, 0xE0 Immediate (R209). -/
def execCpxImmediate (imm : Byte) (st : State) : Answer := compareWith st.x imm 2#16 st

/-- `CPX $zz`, 0xE4 ZeroPage (R209). -/
def execCpxZeroPage (zp : Byte) (st : State) : Answer := compareWith st.x (st.read (eaZeroPage zp)) 2#16 st

/-- `CPX $hhll`, 0xEC Absolute (R209). -/
def execCpxAbsolute (addr : Word) (st : State) : Answer := compareWith st.x (st.read (eaAbsolute addr)) 3#16 st

/-- `CPY #$ii`, 0xC0 Immediate (R210). -/
def execCpyImmediate (imm : Byte) (st : State) : Answer := compareWith st.y imm 2#16 st

/-- `CPY $zz`, 0xC4 ZeroPage (R210). -/
def execCpyZeroPage (zp : Byte) (st : State) : Answer := compareWith st.y (st.read (eaZeroPage zp)) 2#16 st

/-- `CPY $hhll`, 0xCC Absolute (R210). -/
def execCpyAbsolute (addr : Word) (st : State) : Answer := compareWith st.y (st.read (eaAbsolute addr)) 3#16 st

/-- `BIT $zz`, 0x24 ZeroPage (R211). -/
def execBitZeroPage (zp : Byte) (st : State) : Answer := bitTest (st.read (eaZeroPage zp)) 2#16 st

/-- `BIT $hhll`, 0x2C Absolute (R211). -/
def execBitAbsolute (addr : Word) (st : State) : Answer := bitTest (st.read (eaAbsolute addr)) 3#16 st

end Sys2Proof.Machine
end

