-- ==== Sys2Proof/Machine/Control.lean ====
section
/-! DEFINITION. Control transfer: jumps, no-op, break, subroutines and branches: the meaning of each instruction of spec/45_control.md (R180 to R195), one definition an instruction. -/

namespace Sys2Proof.Machine

/-- `Branch(cond)`: the target is the next instruction's address plus the signed displacement, modulo 65536 (R186). -/
def branch (cond : Bool) (rel : Byte) (st : State) : Answer :=
  .next (st.finish (if cond then st.pc + 2#16 + sext16 rel else st.pc + 2#16) none)

/-- Push a return address, high byte first (R183). -/
def pushAddress (ret : Word) (st : State) : State := (st.push (hiByte ret)).push (loByte ret)

/-- `hi :: lo` of a return address pulled low byte first (R184, R185): the address and the state
after both pulls. -/
def pullAddress (st : State) : Word × State :=
  (makeAddress st.pull.2.pull.1 st.pull.1, st.pull.2.pull.2)

/-- `JMP $hhll`, 0x4C Absolute (R180). -/
def execJmpAbsolute (addr : Word) (st : State) : Answer := .next (st.finish (eaAbsolute addr) none)

/-- `JMP ($hhll)`, 0x6C Indirect (R180). -/
def execJmpIndirect (ptr : Word) (st : State) : Answer := .next (st.finish (eaIndirect st ptr) none)

/-- `NOP`, 0xEA Implied (R181): no other effect. -/
def execNop (st : State) : Answer := .next (st.advance 1#16)

/-- `BRK`, 0x00 Implied (R182): BRK sets B and advances PC by 1; nothing is pushed and no vector is read. -/
def execBrk (st : State) : Answer := .next ({ st with flagB := true }.advance 1#16)

/-- `JSR $hhll`, 0x20 Absolute (R183): pushes the address of its own last byte, high byte first. -/
def execJsrAbsolute (addr : Word) (st : State) : Answer :=
  .next ((pushAddress (st.pc + 2#16) st).finish (eaAbsolute addr) none)

/-- `RTS`, 0x60 Implied (R184): the pulled address plus 1. -/
def execRts (st : State) : Answer :=
  .next ((pullAddress st).2.finish ((pullAddress st).1 + 1#16) none)

/-- `RTI`, 0x40 Implied (R185): the pulled address itself, all eight flags. -/
def execRti (st : State) : Answer :=
  let st1 := st.pull.2.flagsFromByte st.pull.1
  .next ((pullAddress st1).2.finish (pullAddress st1).1 none)

/-- `BPL label`, 0x10 Relative (R187). -/
def execBplRelative (rel : Byte) (st : State) : Answer := branch (!st.flagN) rel st

/-- `BMI label`, 0x30 Relative (R188). -/
def execBmiRelative (rel : Byte) (st : State) : Answer := branch st.flagN rel st

/-- `BVC label`, 0x50 Relative (R189). -/
def execBvcRelative (rel : Byte) (st : State) : Answer := branch (!st.flagV) rel st

/-- `BVS label`, 0x70 Relative (R190). -/
def execBvsRelative (rel : Byte) (st : State) : Answer := branch st.flagV rel st

/-- `BCC label`, 0x90 Relative (R191). -/
def execBccRelative (rel : Byte) (st : State) : Answer := branch (!st.flagC) rel st

/-- `BCS label`, 0xB0 Relative (R192). -/
def execBcsRelative (rel : Byte) (st : State) : Answer := branch st.flagC rel st

/-- `BNE label`, 0xD0 Relative (R193). -/
def execBneRelative (rel : Byte) (st : State) : Answer := branch (!st.flagZ) rel st

/-- `BEQ label`, 0xF0 Relative (R194). -/
def execBeqRelative (rel : Byte) (st : State) : Answer := branch st.flagZ rel st

end Sys2Proof.Machine
end

