-- ==== Sys2Proof/Machine/FlagOps.lean ====
section
/-! DEFINITION. The flag instructions: the meaning of each instruction of spec/48_flag_ops.md (R230 to R236), one definition an instruction. -/

namespace Sys2Proof.Machine

/-- `CLC`, 0x18 Implied (R230). -/
def execClc (st : State) : Answer := .next ({ st with flagC := false }.advance 1#16)

/-- `SEC`, 0x38 Implied (R231). -/
def execSec (st : State) : Answer := .next ({ st with flagC := true }.advance 1#16)

/-- `CLI`, 0x58 Implied (R232): I masks nothing (R263). -/
def execCli (st : State) : Answer := .next ({ st with flagI := false }.advance 1#16)

/-- `SEI`, 0x78 Implied (R233): I masks nothing (R263). -/
def execSei (st : State) : Answer := .next ({ st with flagI := true }.advance 1#16)

/-- `CLD`, 0xD8 Implied (R234). -/
def execCld (st : State) : Answer := .next ({ st with flagD := false }.advance 1#16)

/-- `SED`, 0xF8 Implied (R235). -/
def execSed (st : State) : Answer := .next ({ st with flagD := true }.advance 1#16)

/-- `CLV`, 0xB8 Implied (R236). -/
def execClv (st : State) : Answer := .next ({ st with flagV := false }.advance 1#16)

end Sys2Proof.Machine
end

