-- ==== Sys2Proof/Machine/IncDec.lean ====
section
/-! DEFINITION. Increments and decrements: the meaning of each instruction of spec/43_inc_dec.md (R160 to R165), one definition an instruction. -/

namespace Sys2Proof.Machine

/-- INC and DEC: read the cell once, write the result once, N and Z from it (R164, R165, R67). -/
def modifyCell (f : Byte → Byte) (ea : Word) (len : Word) (st : State) : Answer :=
  .next (((st.write ea (f (st.read ea))).setNZ (f (st.read ea))).advance len)

/-- `INX`, 0xE8 Implied (R160). -/
def execInx (st : State) : Answer := .next (({ st with x := st.x + 1#8 }.setNZ (st.x + 1#8)).advance 1#16)

/-- `INY`, 0xC8 Implied (R161). -/
def execIny (st : State) : Answer := .next (({ st with y := st.y + 1#8 }.setNZ (st.y + 1#8)).advance 1#16)

/-- `DEX`, 0xCA Implied (R162). -/
def execDex (st : State) : Answer := .next (({ st with x := st.x - 1#8 }.setNZ (st.x - 1#8)).advance 1#16)

/-- `DEY`, 0x88 Implied (R163). -/
def execDey (st : State) : Answer := .next (({ st with y := st.y - 1#8 }.setNZ (st.y - 1#8)).advance 1#16)

/-- `INC $zz`, 0xE6 ZeroPage (R164). -/
def execIncZeroPage (zp : Byte) (st : State) : Answer := modifyCell incOf (eaZeroPage zp) 2#16 st

/-- `INC $zz,X`, 0xF6 ZeroPageX (R164). -/
def execIncZeroPageX (zp : Byte) (st : State) : Answer := modifyCell incOf (eaZeroPageX st zp) 2#16 st

/-- `INC $hhll`, 0xEE Absolute (R164). -/
def execIncAbsolute (addr : Word) (st : State) : Answer := modifyCell incOf (eaAbsolute addr) 3#16 st

/-- `INC $hhll,X`, 0xFE AbsoluteX (R164). -/
def execIncAbsoluteX (addr : Word) (st : State) : Answer := modifyCell incOf (eaAbsoluteX st addr) 3#16 st

/-- `DEC $zz`, 0xC6 ZeroPage (R165). -/
def execDecZeroPage (zp : Byte) (st : State) : Answer := modifyCell decOf (eaZeroPage zp) 2#16 st

/-- `DEC $zz,X`, 0xD6 ZeroPageX (R165). -/
def execDecZeroPageX (zp : Byte) (st : State) : Answer := modifyCell decOf (eaZeroPageX st zp) 2#16 st

/-- `DEC $hhll`, 0xCE Absolute (R165). -/
def execDecAbsolute (addr : Word) (st : State) : Answer := modifyCell decOf (eaAbsolute addr) 3#16 st

/-- `DEC $hhll,X`, 0xDE AbsoluteX (R165). -/
def execDecAbsoluteX (addr : Word) (st : State) : Answer := modifyCell decOf (eaAbsoluteX st addr) 3#16 st

end Sys2Proof.Machine
end

