-- ==== Sys2Proof/Machine/LoadStore.lean ====
section
/-! DEFINITION. Loads and stores: the meaning of each instruction of spec/41_load_store.md (R140 to R145), one definition an instruction. -/

namespace Sys2Proof.Machine

/-- LDA's effect with operand `v`: A, N, Z and the result byte (R140). -/
def loadA (v : Byte) (len : Word) (st : State) : Answer :=
  .next (({ st with a := v }.setNZ v).finish (st.pc + len) (some v))

/-- LDX's effect with operand `v` (R141). -/
def loadX (v : Byte) (len : Word) (st : State) : Answer :=
  .next (({ st with x := v }.setNZ v).finish (st.pc + len) (some v))

/-- LDY's effect with operand `v` (R142). -/
def loadY (v : Byte) (len : Word) (st : State) : Answer :=
  .next (({ st with y := v }.setNZ v).finish (st.pc + len) (some v))

/-- A store: one cell written without being read first, no flag (R117, R143 to R145). -/
def store (ea : Word) (v : Byte) (len : Word) (st : State) : Answer := .next ((st.write ea v).advance len)

/-- `LDA #$ii`, 0xA9 Immediate (R140). -/
def execLdaImmediate (imm : Byte) (st : State) : Answer := loadA imm 2#16 st

/-- `LDA $zz`, 0xA5 ZeroPage (R140). -/
def execLdaZeroPage (zp : Byte) (st : State) : Answer := loadA (st.read (eaZeroPage zp)) 2#16 st

/-- `LDA $zz,X`, 0xB5 ZeroPageX (R140). -/
def execLdaZeroPageX (zp : Byte) (st : State) : Answer := loadA (st.read (eaZeroPageX st zp)) 2#16 st

/-- `LDA ($zz,X)`, 0xA1 IndexedIndirectX (R140). -/
def execLdaIndexedIndirectX (zp : Byte) (st : State) : Answer := loadA (st.read (eaIndexedIndirectX st zp)) 2#16 st

/-- `LDA ($zz),Y`, 0xB1 IndirectIndexedY (R140). -/
def execLdaIndirectIndexedY (zp : Byte) (st : State) : Answer := loadA (st.read (eaIndirectIndexedY st zp)) 2#16 st

/-- `LDA $hhll`, 0xAD Absolute (R140). -/
def execLdaAbsolute (addr : Word) (st : State) : Answer := loadA (st.read (eaAbsolute addr)) 3#16 st

/-- `LDA $hhll,X`, 0xBD AbsoluteX (R140). -/
def execLdaAbsoluteX (addr : Word) (st : State) : Answer := loadA (st.read (eaAbsoluteX st addr)) 3#16 st

/-- `LDA $hhll,Y`, 0xB9 AbsoluteY (R140). -/
def execLdaAbsoluteY (addr : Word) (st : State) : Answer := loadA (st.read (eaAbsoluteY st addr)) 3#16 st

/-- `LDX #$ii`, 0xA2 Immediate (R141). -/
def execLdxImmediate (imm : Byte) (st : State) : Answer := loadX imm 2#16 st

/-- `LDX $zz`, 0xA6 ZeroPage (R141). -/
def execLdxZeroPage (zp : Byte) (st : State) : Answer := loadX (st.read (eaZeroPage zp)) 2#16 st

/-- `LDX $zz,Y`, 0xB6 ZeroPageY (R141). -/
def execLdxZeroPageY (zp : Byte) (st : State) : Answer := loadX (st.read (eaZeroPageY st zp)) 2#16 st

/-- `LDX $hhll`, 0xAE Absolute (R141). -/
def execLdxAbsolute (addr : Word) (st : State) : Answer := loadX (st.read (eaAbsolute addr)) 3#16 st

/-- `LDX $hhll,Y`, 0xBE AbsoluteY (R141). -/
def execLdxAbsoluteY (addr : Word) (st : State) : Answer := loadX (st.read (eaAbsoluteY st addr)) 3#16 st

/-- `LDY #$ii`, 0xA0 Immediate (R142). -/
def execLdyImmediate (imm : Byte) (st : State) : Answer := loadY imm 2#16 st

/-- `LDY $zz`, 0xA4 ZeroPage (R142). -/
def execLdyZeroPage (zp : Byte) (st : State) : Answer := loadY (st.read (eaZeroPage zp)) 2#16 st

/-- `LDY $zz,X`, 0xB4 ZeroPageX (R142). -/
def execLdyZeroPageX (zp : Byte) (st : State) : Answer := loadY (st.read (eaZeroPageX st zp)) 2#16 st

/-- `LDY $hhll`, 0xAC Absolute (R142). -/
def execLdyAbsolute (addr : Word) (st : State) : Answer := loadY (st.read (eaAbsolute addr)) 3#16 st

/-- `LDY $hhll,X`, 0xBC AbsoluteX (R142). -/
def execLdyAbsoluteX (addr : Word) (st : State) : Answer := loadY (st.read (eaAbsoluteX st addr)) 3#16 st

/-- `STA $zz`, 0x85 ZeroPage (R143). -/
def execStaZeroPage (zp : Byte) (st : State) : Answer := store (eaZeroPage zp) st.a 2#16 st

/-- `STA $zz,X`, 0x95 ZeroPageX (R143). -/
def execStaZeroPageX (zp : Byte) (st : State) : Answer := store (eaZeroPageX st zp) st.a 2#16 st

/-- `STA ($zz,X)`, 0x81 IndexedIndirectX (R143). -/
def execStaIndexedIndirectX (zp : Byte) (st : State) : Answer := store (eaIndexedIndirectX st zp) st.a 2#16 st

/-- `STA ($zz),Y`, 0x91 IndirectIndexedY (R143). -/
def execStaIndirectIndexedY (zp : Byte) (st : State) : Answer := store (eaIndirectIndexedY st zp) st.a 2#16 st

/-- `STA $hhll`, 0x8D Absolute (R143). -/
def execStaAbsolute (addr : Word) (st : State) : Answer := store (eaAbsolute addr) st.a 3#16 st

/-- `STA $hhll,X`, 0x9D AbsoluteX (R143). -/
def execStaAbsoluteX (addr : Word) (st : State) : Answer := store (eaAbsoluteX st addr) st.a 3#16 st

/-- `STA $hhll,Y`, 0x99 AbsoluteY (R143). -/
def execStaAbsoluteY (addr : Word) (st : State) : Answer := store (eaAbsoluteY st addr) st.a 3#16 st

/-- `STX $zz`, 0x86 ZeroPage (R144). -/
def execStxZeroPage (zp : Byte) (st : State) : Answer := store (eaZeroPage zp) st.x 2#16 st

/-- `STX $zz,Y`, 0x96 ZeroPageY (R144). -/
def execStxZeroPageY (zp : Byte) (st : State) : Answer := store (eaZeroPageY st zp) st.x 2#16 st

/-- `STX $hhll`, 0x8E Absolute (R144). -/
def execStxAbsolute (addr : Word) (st : State) : Answer := store (eaAbsolute addr) st.x 3#16 st

/-- `STY $zz`, 0x84 ZeroPage (R145). -/
def execStyZeroPage (zp : Byte) (st : State) : Answer := store (eaZeroPage zp) st.y 2#16 st

/-- `STY $zz,X`, 0x94 ZeroPageX (R145). -/
def execStyZeroPageX (zp : Byte) (st : State) : Answer := store (eaZeroPageX st zp) st.y 2#16 st

/-- `STY $hhll`, 0x8C Absolute (R145). -/
def execStyAbsolute (addr : Word) (st : State) : Answer := store (eaAbsolute addr) st.y 3#16 st

end Sys2Proof.Machine
end

