-- ==== Sys2Proof/Machine/ShiftRotate.lean ====
section
/-! DEFINITION. Shifts and rotates by one: the meaning of each instruction of spec/47_shift_rotate.md (R220 to R223), one definition an instruction. -/

namespace Sys2Proof.Machine

/-- An Accumulator form: operand and result in A, carry out to C, N and Z from the result (R106, R117, R220 to R223). -/
def shiftA (f : Shifter) (st : State) : Answer :=
  let out := f st.a st.flagC
  .next (({ st with a := out.1, flagC := out.2 }.setNZ out.1).advance 1#16)

/-- A memory form: the cell is read once and the result written once (R117, R67, R220 to R223). -/
def shiftCell (f : Shifter) (ea : Word) (len : Word) (st : State) : Answer :=
  let out := f (st.read ea) st.flagC
  .next (({ st.write ea out.1 with flagC := out.2 }.setNZ out.1).advance len)

/-- `ASL A`, 0x0A Accumulator (R220). -/
def execAslAccumulator (st : State) : Answer := shiftA aslOf st

/-- `ASL $zz`, 0x06 ZeroPage (R220). -/
def execAslZeroPage (zp : Byte) (st : State) : Answer := shiftCell aslOf (eaZeroPage zp) 2#16 st

/-- `ASL $zz,X`, 0x16 ZeroPageX (R220). -/
def execAslZeroPageX (zp : Byte) (st : State) : Answer := shiftCell aslOf (eaZeroPageX st zp) 2#16 st

/-- `ASL $hhll`, 0x0E Absolute (R220). -/
def execAslAbsolute (addr : Word) (st : State) : Answer := shiftCell aslOf (eaAbsolute addr) 3#16 st

/-- `ASL $hhll,X`, 0x1E AbsoluteX (R220). -/
def execAslAbsoluteX (addr : Word) (st : State) : Answer := shiftCell aslOf (eaAbsoluteX st addr) 3#16 st

/-- `LSR A`, 0x4A Accumulator (R221). -/
def execLsrAccumulator (st : State) : Answer := shiftA lsrOf st

/-- `LSR $zz`, 0x46 ZeroPage (R221). -/
def execLsrZeroPage (zp : Byte) (st : State) : Answer := shiftCell lsrOf (eaZeroPage zp) 2#16 st

/-- `LSR $zz,X`, 0x56 ZeroPageX (R221). -/
def execLsrZeroPageX (zp : Byte) (st : State) : Answer := shiftCell lsrOf (eaZeroPageX st zp) 2#16 st

/-- `LSR $hhll`, 0x4E Absolute (R221). -/
def execLsrAbsolute (addr : Word) (st : State) : Answer := shiftCell lsrOf (eaAbsolute addr) 3#16 st

/-- `LSR $hhll,X`, 0x5E AbsoluteX (R221). -/
def execLsrAbsoluteX (addr : Word) (st : State) : Answer := shiftCell lsrOf (eaAbsoluteX st addr) 3#16 st

/-- `ROL A`, 0x2A Accumulator (R222). -/
def execRolAccumulator (st : State) : Answer := shiftA rolOf st

/-- `ROL $zz`, 0x26 ZeroPage (R222). -/
def execRolZeroPage (zp : Byte) (st : State) : Answer := shiftCell rolOf (eaZeroPage zp) 2#16 st

/-- `ROL $zz,X`, 0x36 ZeroPageX (R222). -/
def execRolZeroPageX (zp : Byte) (st : State) : Answer := shiftCell rolOf (eaZeroPageX st zp) 2#16 st

/-- `ROL $hhll`, 0x2E Absolute (R222). -/
def execRolAbsolute (addr : Word) (st : State) : Answer := shiftCell rolOf (eaAbsolute addr) 3#16 st

/-- `ROL $hhll,X`, 0x3E AbsoluteX (R222). -/
def execRolAbsoluteX (addr : Word) (st : State) : Answer := shiftCell rolOf (eaAbsoluteX st addr) 3#16 st

/-- `ROR A`, 0x6A Accumulator (R223). -/
def execRorAccumulator (st : State) : Answer := shiftA rorOf st

/-- `ROR $zz`, 0x66 ZeroPage (R223). -/
def execRorZeroPage (zp : Byte) (st : State) : Answer := shiftCell rorOf (eaZeroPage zp) 2#16 st

/-- `ROR $zz,X`, 0x76 ZeroPageX (R223). -/
def execRorZeroPageX (zp : Byte) (st : State) : Answer := shiftCell rorOf (eaZeroPageX st zp) 2#16 st

/-- `ROR $hhll`, 0x6E Absolute (R223). -/
def execRorAbsolute (addr : Word) (st : State) : Answer := shiftCell rorOf (eaAbsolute addr) 3#16 st

/-- `ROR $hhll,X`, 0x7E AbsoluteX (R223). -/
def execRorAbsoluteX (addr : Word) (st : State) : Answer := shiftCell rorOf (eaAbsoluteX st addr) 3#16 st

end Sys2Proof.Machine
end

