-- ==== Sys2Proof/Machine/Stack.lean ====
section
/-! DEFINITION. The stack instructions: the meaning of each instruction of spec/44_stack.md (R173 to R176), one definition an instruction. -/

namespace Sys2Proof.Machine

/-- `PHA`, 0x48 Implied (R173). -/
def execPha (st : State) : Answer := .next ((st.push st.a).advance 1#16)

/-- `PLA`, 0x68 Implied (R174). -/
def execPla (st : State) : Answer :=
  .next (({ st.pull.2 with a := st.pull.1 }.setNZ st.pull.1).finish (st.pc + 1#16) (some st.pull.1))

/-- `PHP`, 0x08 Implied (R175): the flags as stored, B and U included. -/
def execPhp (st : State) : Answer := .next ((st.push st.flagsToByte).advance 1#16)

/-- `PLP`, 0x28 Implied (R176): all eight flags, B and U included. -/
def execPlp (st : State) : Answer :=
  .next ((st.pull.2.flagsFromByte st.pull.1).finish (st.pc + 1#16) (some st.pull.1))

end Sys2Proof.Machine
end

