-- ==== Sys2Proof/Machine/Transfer.lean ====
section
/-! DEFINITION. Register transfers: the meaning of each instruction of spec/42_transfer.md (R150 to R155), one definition an instruction. -/

namespace Sys2Proof.Machine

/-- `TAX`, 0xAA Implied (R150). -/
def execTax (st : State) : Answer := .next (({ st with x := st.a }.setNZ st.a).advance 1#16)

/-- `TXA`, 0x8A Implied (R151). -/
def execTxa (st : State) : Answer := .next (({ st with a := st.x }.setNZ st.x).advance 1#16)

/-- `TAY`, 0xA8 Implied (R152). -/
def execTay (st : State) : Answer := .next (({ st with y := st.a }.setNZ st.a).advance 1#16)

/-- `TYA`, 0x98 Implied (R153). -/
def execTya (st : State) : Answer := .next (({ st with a := st.y }.setNZ st.y).advance 1#16)

/-- `TSX`, 0xBA Implied (R154): the page number of SP is not transferred. -/
def execTsx (st : State) : Answer := .next (({ st with x := st.s }.setNZ st.s).advance 1#16)

/-- `TXS`, 0x9A Implied (R155): no flag. -/
def execTxs (st : State) : Answer := .next ({ st with s := st.x }.advance 1#16)

end Sys2Proof.Machine
end

