-- ==== Sys2Proof/Machine/Dispatch.lean ====
section
/-! DEFINITION. The engine's dispatch: one case for each row of the opcode map (spec/40_engine.md R103). -/

namespace Sys2Proof.Machine

open Sys2Proof

/-- What an instruction does at a state whose PC is the address of its opcode byte (R26, R103). -/
def exec (i : Instr) (st : State) : Host.Outcome State Fault Refusal :=
  match i with
  -- spec/41_load_store.md
  | .ldaImmediate imm => Sys2Proof.Machine.execLdaImmediate imm st
  | .ldaZeroPage zp => Sys2Proof.Machine.execLdaZeroPage zp st
  | .ldaZeroPageX zp => Sys2Proof.Machine.execLdaZeroPageX zp st
  | .ldaIndexedIndirectX zp => Sys2Proof.Machine.execLdaIndexedIndirectX zp st
  | .ldaIndirectIndexedY zp => Sys2Proof.Machine.execLdaIndirectIndexedY zp st
  | .ldaAbsolute addr => Sys2Proof.Machine.execLdaAbsolute addr st
  | .ldaAbsoluteX addr => Sys2Proof.Machine.execLdaAbsoluteX addr st
  | .ldaAbsoluteY addr => Sys2Proof.Machine.execLdaAbsoluteY addr st
  | .ldxImmediate imm => Sys2Proof.Machine.execLdxImmediate imm st
  | .ldxZeroPage zp => Sys2Proof.Machine.execLdxZeroPage zp st
  | .ldxZeroPageY zp => Sys2Proof.Machine.execLdxZeroPageY zp st
  | .ldxAbsolute addr => Sys2Proof.Machine.execLdxAbsolute addr st
  | .ldxAbsoluteY addr => Sys2Proof.Machine.execLdxAbsoluteY addr st
  | .ldyImmediate imm => Sys2Proof.Machine.execLdyImmediate imm st
  | .ldyZeroPage zp => Sys2Proof.Machine.execLdyZeroPage zp st
  | .ldyZeroPageX zp => Sys2Proof.Machine.execLdyZeroPageX zp st
  | .ldyAbsolute addr => Sys2Proof.Machine.execLdyAbsolute addr st
  | .ldyAbsoluteX addr => Sys2Proof.Machine.execLdyAbsoluteX addr st
  | .staZeroPage zp => Sys2Proof.Machine.execStaZeroPage zp st
  | .staZeroPageX zp => Sys2Proof.Machine.execStaZeroPageX zp st
  | .staIndexedIndirectX zp => Sys2Proof.Machine.execStaIndexedIndirectX zp st
  | .staIndirectIndexedY zp => Sys2Proof.Machine.execStaIndirectIndexedY zp st
  | .staAbsolute addr => Sys2Proof.Machine.execStaAbsolute addr st
  | .staAbsoluteX addr => Sys2Proof.Machine.execStaAbsoluteX addr st
  | .staAbsoluteY addr => Sys2Proof.Machine.execStaAbsoluteY addr st
  | .stxZeroPage zp => Sys2Proof.Machine.execStxZeroPage zp st
  | .stxZeroPageY zp => Sys2Proof.Machine.execStxZeroPageY zp st
  | .stxAbsolute addr => Sys2Proof.Machine.execStxAbsolute addr st
  | .styZeroPage zp => Sys2Proof.Machine.execStyZeroPage zp st
  | .styZeroPageX zp => Sys2Proof.Machine.execStyZeroPageX zp st
  | .styAbsolute addr => Sys2Proof.Machine.execStyAbsolute addr st
  -- spec/42_transfer.md
  | .tax => Sys2Proof.Machine.execTax st
  | .txa => Sys2Proof.Machine.execTxa st
  | .tay => Sys2Proof.Machine.execTay st
  | .tya => Sys2Proof.Machine.execTya st
  | .tsx => Sys2Proof.Machine.execTsx st
  | .txs => Sys2Proof.Machine.execTxs st
  -- spec/43_inc_dec.md
  | .inx => Sys2Proof.Machine.execInx st
  | .iny => Sys2Proof.Machine.execIny st
  | .dex => Sys2Proof.Machine.execDex st
  | .dey => Sys2Proof.Machine.execDey st
  | .incZeroPage zp => Sys2Proof.Machine.execIncZeroPage zp st
  | .incZeroPageX zp => Sys2Proof.Machine.execIncZeroPageX zp st
  | .incAbsolute addr => Sys2Proof.Machine.execIncAbsolute addr st
  | .incAbsoluteX addr => Sys2Proof.Machine.execIncAbsoluteX addr st
  | .decZeroPage zp => Sys2Proof.Machine.execDecZeroPage zp st
  | .decZeroPageX zp => Sys2Proof.Machine.execDecZeroPageX zp st
  | .decAbsolute addr => Sys2Proof.Machine.execDecAbsolute addr st
  | .decAbsoluteX addr => Sys2Proof.Machine.execDecAbsoluteX addr st
  -- spec/44_stack.md
  | .pha => Sys2Proof.Machine.execPha st
  | .pla => Sys2Proof.Machine.execPla st
  | .php => Sys2Proof.Machine.execPhp st
  | .plp => Sys2Proof.Machine.execPlp st
  -- spec/45_control.md
  | .jmpAbsolute addr => Sys2Proof.Machine.execJmpAbsolute addr st
  | .jmpIndirect ptr => Sys2Proof.Machine.execJmpIndirect ptr st
  | .nop => Sys2Proof.Machine.execNop st
  | .brk => Sys2Proof.Machine.execBrk st
  | .jsrAbsolute addr => Sys2Proof.Machine.execJsrAbsolute addr st
  | .rts => Sys2Proof.Machine.execRts st
  | .rti => Sys2Proof.Machine.execRti st
  | .bplRelative rel => Sys2Proof.Machine.execBplRelative rel st
  | .bmiRelative rel => Sys2Proof.Machine.execBmiRelative rel st
  | .bvcRelative rel => Sys2Proof.Machine.execBvcRelative rel st
  | .bvsRelative rel => Sys2Proof.Machine.execBvsRelative rel st
  | .bccRelative rel => Sys2Proof.Machine.execBccRelative rel st
  | .bcsRelative rel => Sys2Proof.Machine.execBcsRelative rel st
  | .bneRelative rel => Sys2Proof.Machine.execBneRelative rel st
  | .beqRelative rel => Sys2Proof.Machine.execBeqRelative rel st
  -- spec/46_arith_logic.md
  | .adcImmediate imm => Sys2Proof.Machine.execAdcImmediate imm st
  | .adcZeroPage zp => Sys2Proof.Machine.execAdcZeroPage zp st
  | .adcZeroPageX zp => Sys2Proof.Machine.execAdcZeroPageX zp st
  | .adcIndexedIndirectX zp => Sys2Proof.Machine.execAdcIndexedIndirectX zp st
  | .adcIndirectIndexedY zp => Sys2Proof.Machine.execAdcIndirectIndexedY zp st
  | .adcAbsolute addr => Sys2Proof.Machine.execAdcAbsolute addr st
  | .adcAbsoluteX addr => Sys2Proof.Machine.execAdcAbsoluteX addr st
  | .adcAbsoluteY addr => Sys2Proof.Machine.execAdcAbsoluteY addr st
  | .sbcImmediate imm => Sys2Proof.Machine.execSbcImmediate imm st
  | .sbcZeroPage zp => Sys2Proof.Machine.execSbcZeroPage zp st
  | .sbcZeroPageX zp => Sys2Proof.Machine.execSbcZeroPageX zp st
  | .sbcIndexedIndirectX zp => Sys2Proof.Machine.execSbcIndexedIndirectX zp st
  | .sbcIndirectIndexedY zp => Sys2Proof.Machine.execSbcIndirectIndexedY zp st
  | .sbcAbsolute addr => Sys2Proof.Machine.execSbcAbsolute addr st
  | .sbcAbsoluteX addr => Sys2Proof.Machine.execSbcAbsoluteX addr st
  | .sbcAbsoluteY addr => Sys2Proof.Machine.execSbcAbsoluteY addr st
  | .andImmediate imm => Sys2Proof.Machine.execAndImmediate imm st
  | .andZeroPage zp => Sys2Proof.Machine.execAndZeroPage zp st
  | .andZeroPageX zp => Sys2Proof.Machine.execAndZeroPageX zp st
  | .andIndexedIndirectX zp => Sys2Proof.Machine.execAndIndexedIndirectX zp st
  | .andIndirectIndexedY zp => Sys2Proof.Machine.execAndIndirectIndexedY zp st
  | .andAbsolute addr => Sys2Proof.Machine.execAndAbsolute addr st
  | .andAbsoluteX addr => Sys2Proof.Machine.execAndAbsoluteX addr st
  | .andAbsoluteY addr => Sys2Proof.Machine.execAndAbsoluteY addr st
  | .oraImmediate imm => Sys2Proof.Machine.execOraImmediate imm st
  | .oraZeroPage zp => Sys2Proof.Machine.execOraZeroPage zp st
  | .oraZeroPageX zp => Sys2Proof.Machine.execOraZeroPageX zp st
  | .oraIndexedIndirectX zp => Sys2Proof.Machine.execOraIndexedIndirectX zp st
  | .oraIndirectIndexedY zp => Sys2Proof.Machine.execOraIndirectIndexedY zp st
  | .oraAbsolute addr => Sys2Proof.Machine.execOraAbsolute addr st
  | .oraAbsoluteX addr => Sys2Proof.Machine.execOraAbsoluteX addr st
  | .oraAbsoluteY addr => Sys2Proof.Machine.execOraAbsoluteY addr st
  | .eorImmediate imm => Sys2Proof.Machine.execEorImmediate imm st
  | .eorZeroPage zp => Sys2Proof.Machine.execEorZeroPage zp st
  | .eorZeroPageX zp => Sys2Proof.Machine.execEorZeroPageX zp st
  | .eorIndexedIndirectX zp => Sys2Proof.Machine.execEorIndexedIndirectX zp st
  | .eorIndirectIndexedY zp => Sys2Proof.Machine.execEorIndirectIndexedY zp st
  | .eorAbsolute addr => Sys2Proof.Machine.execEorAbsolute addr st
  | .eorAbsoluteX addr => Sys2Proof.Machine.execEorAbsoluteX addr st
  | .eorAbsoluteY addr => Sys2Proof.Machine.execEorAbsoluteY addr st
  | .cmpImmediate imm => Sys2Proof.Machine.execCmpImmediate imm st
  | .cmpZeroPage zp => Sys2Proof.Machine.execCmpZeroPage zp st
  | .cmpZeroPageX zp => Sys2Proof.Machine.execCmpZeroPageX zp st
  | .cmpIndexedIndirectX zp => Sys2Proof.Machine.execCmpIndexedIndirectX zp st
  | .cmpIndirectIndexedY zp => Sys2Proof.Machine.execCmpIndirectIndexedY zp st
  | .cmpAbsolute addr => Sys2Proof.Machine.execCmpAbsolute addr st
  | .cmpAbsoluteX addr => Sys2Proof.Machine.execCmpAbsoluteX addr st
  | .cmpAbsoluteY addr => Sys2Proof.Machine.execCmpAbsoluteY addr st
  | .cpxImmediate imm => Sys2Proof.Machine.execCpxImmediate imm st
  | .cpxZeroPage zp => Sys2Proof.Machine.execCpxZeroPage zp st
  | .cpxAbsolute addr => Sys2Proof.Machine.execCpxAbsolute addr st
  | .cpyImmediate imm => Sys2Proof.Machine.execCpyImmediate imm st
  | .cpyZeroPage zp => Sys2Proof.Machine.execCpyZeroPage zp st
  | .cpyAbsolute addr => Sys2Proof.Machine.execCpyAbsolute addr st
  | .bitZeroPage zp => Sys2Proof.Machine.execBitZeroPage zp st
  | .bitAbsolute addr => Sys2Proof.Machine.execBitAbsolute addr st
  -- spec/47_shift_rotate.md
  | .aslAccumulator => Sys2Proof.Machine.execAslAccumulator st
  | .aslZeroPage zp => Sys2Proof.Machine.execAslZeroPage zp st
  | .aslZeroPageX zp => Sys2Proof.Machine.execAslZeroPageX zp st
  | .aslAbsolute addr => Sys2Proof.Machine.execAslAbsolute addr st
  | .aslAbsoluteX addr => Sys2Proof.Machine.execAslAbsoluteX addr st
  | .lsrAccumulator => Sys2Proof.Machine.execLsrAccumulator st
  | .lsrZeroPage zp => Sys2Proof.Machine.execLsrZeroPage zp st
  | .lsrZeroPageX zp => Sys2Proof.Machine.execLsrZeroPageX zp st
  | .lsrAbsolute addr => Sys2Proof.Machine.execLsrAbsolute addr st
  | .lsrAbsoluteX addr => Sys2Proof.Machine.execLsrAbsoluteX addr st
  | .rolAccumulator => Sys2Proof.Machine.execRolAccumulator st
  | .rolZeroPage zp => Sys2Proof.Machine.execRolZeroPage zp st
  | .rolZeroPageX zp => Sys2Proof.Machine.execRolZeroPageX zp st
  | .rolAbsolute addr => Sys2Proof.Machine.execRolAbsolute addr st
  | .rolAbsoluteX addr => Sys2Proof.Machine.execRolAbsoluteX addr st
  | .rorAccumulator => Sys2Proof.Machine.execRorAccumulator st
  | .rorZeroPage zp => Sys2Proof.Machine.execRorZeroPage zp st
  | .rorZeroPageX zp => Sys2Proof.Machine.execRorZeroPageX zp st
  | .rorAbsolute addr => Sys2Proof.Machine.execRorAbsolute addr st
  | .rorAbsoluteX addr => Sys2Proof.Machine.execRorAbsoluteX addr st
  -- spec/48_flag_ops.md
  | .clc => Sys2Proof.Machine.execClc st
  | .sec => Sys2Proof.Machine.execSec st
  | .cli => Sys2Proof.Machine.execCli st
  | .sei => Sys2Proof.Machine.execSei st
  | .cld => Sys2Proof.Machine.execCld st
  | .sed => Sys2Proof.Machine.execSed st
  | .clv => Sys2Proof.Machine.execClv st

end Sys2Proof.Machine
end

