-- ==== Sys2Proof/Machine/Step.lean ====
section
/-! DEFINITION. One step of the fetch-decode-execute engine (spec/40_engine.md R100 to R104), and the state in which the next
step fetches a given instruction. -/

namespace Sys2Proof.Machine

/-- Fetch three bytes at PC, decode, execute; an opcode byte with no table entry takes the illegal-opcode path (R104). A step
is atomic: a next state holds the whole effect, a fault none of it (R120). -/
def step (st : State) : Host.Outcome State Fault Refusal :=
  match decodeFetched st.fetched.1 st.fetched.2.1 st.fetched.2.2 with
  | .ok i => exec i st
  | .error _ => illegalOpcodeStep st.fetched.1 st

/-- `st` with the instruction whose bits are `w`, numbered as spec/opcode_table.json numbers them and 0 above the first
`nbits`, stored at PC, PC + 1 and PC + 2, where the next step fetches; it stands for the host's `set_bytes` of a program
(spec/70_reset_and_hazards.md R283; log entry 5). -/
def State.withFetchWord (st : State) (nbits w : Nat) : State :=
  st.withFetched (tableByte nbits w 0) (tableByte nbits w 1) (tableByte nbits w 2)

end Sys2Proof.Machine
end

