-- ==== Sys2Proof/Machine/HostOps.lean ====
section
/-! DEFINITION. The operations the host can call between two steps (spec/49_host_operations.md R240 to R253, the bulk memory
operations of spec/20_memory.md R60 to R63, and the CPU reset of spec/70_reset_and_hazards.md R280). `get_byte` and
`set_byte` are `State.read` and `State.write` (R52, R53), `flags_to_byte` and `flags_from_byte` are `State.flagsToByte` and
`State.flagsFromByte` (R246), `push` and `pull` are `State.push` and `State.pull` (R247, R248). -/

namespace Sys2Proof.Machine

/-! ### Stepping -/

/-- `execute_one_instruction` (R241): the new state and the result byte, or the fault, which changes nothing. No step of this
model is refused; a refusal would answer `none`. -/
def executeOneInstruction (st : State) : Option (Except Fault (State × Option Byte)) :=
  match step st with
  | .next st' => some (.ok (st', st'.result))
  | .fault f => some (.error f)
  | .refused _ => none

/-- The number of a fault kind (R260, R262). -/
def Fault.code : Fault → Nat
  | .illegalOpcode _ _ => 1
  | .unmodelledDecimal _ _ => 2

/-! ### Register and flag getters and setters: each writes only its own register or flag (R242 to R245) -/

def State.getA (st : State) : Byte := st.a
def State.getX (st : State) : Byte := st.x
def State.getY (st : State) : Byte := st.y
def State.setA (st : State) (v : Byte) : State := { st with a := v }
def State.setX (st : State) (v : Byte) : State := { st with x := v }
def State.setY (st : State) (v : Byte) : State := { st with y := v }

/-- `get_sp()`: the 16-bit view, in 0x0100..0x01FF (R243). -/
def State.getSp (st : State) : Word := st.sp

/-- `set_sp(v)`: the low byte is kept, the high byte ignored (R243). -/
def State.setSp (st : State) (v : Word) : State := { st with s := loByte v }

def State.getPc (st : State) : Word := st.pc
/-- `set_pc(v)`: every u16 is accepted (R244). -/
def State.setPc (st : State) (v : Word) : State := { st with pc := v }
/-- `jump(address)`: PC and nothing else (R249). -/
def State.jump (st : State) (address : Word) : State := { st with pc := address }

def State.getN (st : State) : Bool := st.flagN
def State.getV (st : State) : Bool := st.flagV
def State.getU (st : State) : Bool := st.flagU
def State.getB (st : State) : Bool := st.flagB
def State.getD (st : State) : Bool := st.flagD
def State.getI (st : State) : Bool := st.flagI
def State.getZ (st : State) : Bool := st.flagZ
def State.getC (st : State) : Bool := st.flagC
def State.setN (st : State) (f : Bool) : State := { st with flagN := f }
def State.setV (st : State) (f : Bool) : State := { st with flagV := f }
def State.setU (st : State) (f : Bool) : State := { st with flagU := f }
def State.setB (st : State) (f : Bool) : State := { st with flagB := f }
def State.setD (st : State) (f : Bool) : State := { st with flagD := f }
def State.setI (st : State) (f : Bool) : State := { st with flagI := f }
def State.setZ (st : State) (f : Bool) : State := { st with flagZ := f }
def State.setC (st : State) (f : Bool) : State := { st with flagC := f }

/-! ### Resets -/

/-- CPU `reset()`: every register and flag, no memory cell read or written (R280, R282). The parameters stay, and the output
of the latest step is cleared (log entry 2). -/
def State.cpuReset (st : State) : State := { State.reset with mem := st.mem, cfg := st.cfg }

/-- Memory `reset()`: every cell 0x00, the CPU unchanged (R61, R282). -/
def State.memoryReset (st : State) : State := { st with mem := [] }

/-! ### Bulk memory operations -/

/-- Write `values` at consecutive addresses from `start`. -/
def State.writeRun : State → Nat → List Byte → State
  | st, _, [] => st
  | st, start, v :: rest => State.writeRun (st.write (BitVec.ofNat 16 start) v) (start + 1) rest

/-- `set_bytes(start, values)`: OutOfRange, with nothing written, when the run would pass the end of memory (R60). -/
def State.setBytes (st : State) (start : Word) (values : List Byte) : Except HostError State :=
  if start.toNat + values.length > 0x10000 then .error .outOfRange else .ok (st.writeRun start.toNat values)

/-- `save()`: the 65536 bytes of the image, cell i at offset i (R62). It changes no state. -/
def State.save (st : State) : List Byte := (List.range 65536).map fun k => st.read (BitVec.ofNat 16 k)

/-- The canonical cells of an image whose first byte is cell `start`. -/
def Memory.ofImage : Nat → List Byte → Memory
  | _, [] => []
  | start, v :: rest =>
    if v = 0#8 then Memory.ofImage (start + 1) rest else (start, v) :: Memory.ofImage (start + 1) rest

/-- `load(bytes)`: the first 65536 bytes of the source become the cells; a shorter source is an I/O error and changes no cell
(R63). -/
def State.load (st : State) (source : List Byte) : Except HostError State :=
  if source.length < 65536 then .error .io else .ok { st with mem := Memory.ofImage 0 (source.take 65536) }

end Sys2Proof.Machine
end

