-- ==== Sys2Proof/Safety.lean ====
section
/-! DEFINITION. The terms the claims use: the forms of an instruction as the spec's Encoding lines list them, states that agree
on memory, and the invariant every step keeps. -/

namespace Sys2Proof.Safety

open Sys2Proof Sys2Proof.Machine

/-! ### Forms of an instruction

Each says: `i` is the constructor `c` with some operand, `op` is the opcode byte the spec gives that form, `len` its length
(spec/30_encoding.md R81), and `ea` the effective address the resolver computes for it at `st` (spec/40_engine.md R108 to
R116), with the same function the meanings use. -/

/-- Immediate: the operand value is the byte itself (R107). -/
def ImmForm (c : Byte → Instr) (code : Byte) (i : Instr) (op : Byte) (len : Word) (m : Byte) : Prop :=
  i = c m ∧ op = code ∧ len = 2#16

/-- ZeroPage (R108). -/
def ZpForm (c : Byte → Instr) (code : Byte) (i : Instr) (op : Byte) (len : Word) (ea : Word) : Prop :=
  ∃ zp, i = c zp ∧ op = code ∧ len = 2#16 ∧ ea = eaZeroPage zp

/-- ZeroPageX (R109). -/
def ZpXForm (c : Byte → Instr) (code : Byte) (st : State) (i : Instr) (op : Byte) (len : Word) (ea : Word) : Prop :=
  ∃ zp, i = c zp ∧ op = code ∧ len = 2#16 ∧ ea = eaZeroPageX st zp

/-- ZeroPageY (R109). -/
def ZpYForm (c : Byte → Instr) (code : Byte) (st : State) (i : Instr) (op : Byte) (len : Word) (ea : Word) : Prop :=
  ∃ zp, i = c zp ∧ op = code ∧ len = 2#16 ∧ ea = eaZeroPageY st zp

/-- IndexedIndirectX (R115). -/
def IndXForm (c : Byte → Instr) (code : Byte) (st : State) (i : Instr) (op : Byte) (len : Word) (ea : Word) : Prop :=
  ∃ zp, i = c zp ∧ op = code ∧ len = 2#16 ∧ ea = eaIndexedIndirectX st zp

/-- IndirectIndexedY (R116). -/
def IndYForm (c : Byte → Instr) (code : Byte) (st : State) (i : Instr) (op : Byte) (len : Word) (ea : Word) : Prop :=
  ∃ zp, i = c zp ∧ op = code ∧ len = 2#16 ∧ ea = eaIndirectIndexedY st zp

/-- Absolute (R110). -/
def AbsForm (c : Word → Instr) (code : Byte) (i : Instr) (op : Byte) (len : Word) (ea : Word) : Prop :=
  ∃ addr, i = c addr ∧ op = code ∧ len = 3#16 ∧ ea = eaAbsolute addr

/-- AbsoluteX (R112). -/
def AbsXForm (c : Word → Instr) (code : Byte) (st : State) (i : Instr) (op : Byte) (len : Word) (ea : Word) : Prop :=
  ∃ addr, i = c addr ∧ op = code ∧ len = 3#16 ∧ ea = eaAbsoluteX st addr

/-- AbsoluteY (R112). -/
def AbsYForm (c : Word → Instr) (code : Byte) (st : State) (i : Instr) (op : Byte) (len : Word) (ea : Word) : Prop :=
  ∃ addr, i = c addr ∧ op = code ∧ len = 3#16 ∧ ea = eaAbsoluteY st addr

/-! ### Memory -/

/-- Every cell outside `ea` reads the same in both states (through the model's read of one byte). -/
def SameMemoryExcept (ea : Word) (st t : State) : Prop := ∀ addr : Word, addr ≠ ea → t.read addr = st.read addr

/-- Every cell reads the same in both states. -/
def SameMemory (st t : State) : Prop := ∀ addr : Word, t.read addr = st.read addr

/-- The invariant: memory is in its canonical form. The registers and flags need none: every value of each is legal
(spec/10_state.md R21, R30). -/
def Canonical (st : State) : Prop := st.mem.wf = true

/-! ### Numbers -/

/-- A flag as a number: `bool(f)` of spec/00_scope.md R10. -/
def num (f : Bool) : Nat := f.toNat

/-- The status byte as a number, by the weights of spec/10_state.md R31. -/
def statusNumber (st : State) : Nat :=
  num st.flagN + 2 * num st.flagV + 4 * num st.flagU + 8 * num st.flagB +
    16 * num st.flagD + 32 * num st.flagI + 64 * num st.flagZ + 128 * num st.flagC

/-- The 105 illegal opcode bytes of spec/30_encoding.md R86. -/
def illegalBytes : List Nat :=
  [0x02, 0x03, 0x04, 0x07, 0x0B, 0x0C, 0x0F, 0x12, 0x13, 0x14, 0x17, 0x1A, 0x1B, 0x1C, 0x1F,
   0x22, 0x23, 0x27, 0x2B, 0x2F, 0x32, 0x33, 0x34, 0x37, 0x3A, 0x3B, 0x3C, 0x3F] ++
  [0x42, 0x43, 0x44, 0x47, 0x4B, 0x4F, 0x52, 0x53, 0x54, 0x57, 0x5A, 0x5B, 0x5C, 0x5F,
   0x62, 0x63, 0x64, 0x67, 0x6B, 0x6F, 0x72, 0x73, 0x74, 0x77, 0x7A, 0x7B, 0x7C, 0x7F] ++
  [0x80, 0x82, 0x83, 0x87, 0x89, 0x8B, 0x8F, 0x92, 0x93, 0x97, 0x9B, 0x9C, 0x9E, 0x9F,
   0xA3, 0xA7, 0xAB, 0xAF, 0xB2, 0xB3, 0xB7, 0xBB, 0xBF] ++
  [0xC2, 0xC3, 0xC7, 0xCB, 0xCF, 0xD2, 0xD3, 0xD4, 0xD7, 0xDA, 0xDB, 0xDC, 0xDF,
   0xE2, 0xE3, 0xE7, 0xEB, 0xEF, 0xF2, 0xF3, 0xF4, 0xF7, 0xFA, 0xFB, 0xFC, 0xFF]

/-- The cell of page 1 at an offset: `0x0100 | zext_16(v)` (spec/44_stack.md R170, R171). -/
def stackCell (v : Byte) : Word := 0x0100#16 ||| zext16 v

/-- The 16-bit number of two cells read in the order PTR_ORDER gives (spec/40_engine.md R113). -/
def pointerNumber (st : State) (first second : Word) : Nat :=
  match st.cfg.ptrOrder with
  | .hiFirst => (st.read first).toNat * 256 + (st.read second).toNat
  | .loFirst => (st.read second).toNat * 256 + (st.read first).toNat

/-- `N` pushes in order, the first of the list first. -/
def pushAll : State → List Byte → State
  | st, [] => st
  | st, v :: rest => pushAll (st.push v) rest

/-- `N` pulls: the bytes in the order they come, and the state after them. -/
def pullMany : State → Nat → List Byte × State
  | st, 0 => ([], st)
  | st, n + 1 => (st.pull.1 :: (pullMany st.pull.2 n).1, (pullMany st.pull.2 n).2)

end Sys2Proof.Safety
end

