-- ==== Sys2Proof/Certificates/Slice0/Obligations.lean ====
section
/-! DEFINITION. What is to be proved of the machine: one definition an obligation, each stated over every state (and every
operand), from the numbered rules of spec/. OBLIGATIONS.json lists them. -/

open Sys2Proof Sys2Proof.Machine Sys2Proof.Safety

/-- LDA loads A, sets N and Z from the value, returns it and advances PC, in all eight forms (R140). For every form of
LDA with its opcode byte, operand value m and length, exec answers the next state with A = m, N = m[7], Z = (m = 0),
result Some(m), PC advanced by the length, and every other register, flag and memory cell unchanged. -/
def Obligations.LdaLoadsAccumulator : Prop :=
  ∀ (st : State) (i : Instr) (op : Byte) (len ea : Word) (m : Byte),
    (ImmForm .ldaImmediate 0xA9#8 i op len m ∨
      m = st.read ea ∧
        (ZpForm .ldaZeroPage 0xA5#8 i op len ea ∨ ZpXForm .ldaZeroPageX 0xB5#8 st i op len ea ∨
         IndXForm .ldaIndexedIndirectX 0xA1#8 st i op len ea ∨ IndYForm .ldaIndirectIndexedY 0xB1#8 st i op len ea ∨
         AbsForm .ldaAbsolute 0xAD#8 i op len ea ∨ AbsXForm .ldaAbsoluteX 0xBD#8 st i op len ea ∨
         AbsYForm .ldaAbsoluteY 0xB9#8 st i op len ea)) →
    i.opcode = op ∧
      exec i st = .next { st with
        a := m, flagN := m.getLsbD 7, flagZ := decide (m = 0#8), pc := st.pc + len, result := some m }

/-- LDX loads X and LDY loads Y, with N and Z from the value, in all their forms (R141, R142). For every form of LDX
(five) and LDY (five) with its opcode byte, operand value m and length, exec answers the next state with X = m (Y =
m), N = m[7], Z = (m = 0), result Some(m), PC advanced by the length, and everything else unchanged. -/
def Obligations.LdxAndLdyLoadIndex : Prop :=
  (∀ (st : State) (i : Instr) (op : Byte) (len ea : Word) (m : Byte),
      (ImmForm .ldxImmediate 0xA2#8 i op len m ∨
        m = st.read ea ∧
          (ZpForm .ldxZeroPage 0xA6#8 i op len ea ∨ ZpYForm .ldxZeroPageY 0xB6#8 st i op len ea ∨
           AbsForm .ldxAbsolute 0xAE#8 i op len ea ∨ AbsYForm .ldxAbsoluteY 0xBE#8 st i op len ea)) →
      i.opcode = op ∧
        exec i st = .next { st with
          x := m, flagN := m.getLsbD 7, flagZ := decide (m = 0#8), pc := st.pc + len, result := some m }) ∧
  (∀ (st : State) (i : Instr) (op : Byte) (len ea : Word) (m : Byte),
      (ImmForm .ldyImmediate 0xA0#8 i op len m ∨
        m = st.read ea ∧
          (ZpForm .ldyZeroPage 0xA4#8 i op len ea ∨ ZpXForm .ldyZeroPageX 0xB4#8 st i op len ea ∨
           AbsForm .ldyAbsolute 0xAC#8 i op len ea ∨ AbsXForm .ldyAbsoluteX 0xBC#8 st i op len ea)) →
      i.opcode = op ∧
        exec i st = .next { st with
          y := m, flagN := m.getLsbD 7, flagZ := decide (m = 0#8), pc := st.pc + len, result := some m })

/-- STA stores A at the effective address and nowhere else, with no flag, in all seven forms (R143). For every form of
STA with its opcode byte, length and the effective address the resolver computes, exec answers a next state in which
that cell reads A, every other cell reads as before, PC is advanced by the length, the result is none and every
register and flag is unchanged. -/
def Obligations.StaStoresAccumulator : Prop :=
  ∀ (st : State) (i : Instr) (op : Byte) (len ea : Word),
    (ZpForm .staZeroPage 0x85#8 i op len ea ∨ ZpXForm .staZeroPageX 0x95#8 st i op len ea ∨
     IndXForm .staIndexedIndirectX 0x81#8 st i op len ea ∨ IndYForm .staIndirectIndexedY 0x91#8 st i op len ea ∨
     AbsForm .staAbsolute 0x8D#8 i op len ea ∨ AbsXForm .staAbsoluteX 0x9D#8 st i op len ea ∨
     AbsYForm .staAbsoluteY 0x99#8 st i op len ea) →
    i.opcode = op ∧
      ∃ t, exec i st = .next t ∧ t.read ea = st.a ∧ SameMemoryExcept ea st t ∧
        t = { st with mem := t.mem, pc := st.pc + len, result := none }

/-- STX stores X and STY stores Y at the effective address and nowhere else, with no flag (R144, R145). For every form
of STX (three) and STY (three), exec answers a next state in which the cell at the effective address reads X (Y),
every other cell reads as before, PC is advanced by the length, the result is none and every register and flag is
unchanged. -/
def Obligations.StxAndStyStoreIndex : Prop :=
  (∀ (st : State) (i : Instr) (op : Byte) (len ea : Word),
      (ZpForm .stxZeroPage 0x86#8 i op len ea ∨ ZpYForm .stxZeroPageY 0x96#8 st i op len ea ∨
       AbsForm .stxAbsolute 0x8E#8 i op len ea) →
      i.opcode = op ∧
        ∃ t, exec i st = .next t ∧ t.read ea = st.x ∧ SameMemoryExcept ea st t ∧
          t = { st with mem := t.mem, pc := st.pc + len, result := none }) ∧
  (∀ (st : State) (i : Instr) (op : Byte) (len ea : Word),
      (ZpForm .styZeroPage 0x84#8 i op len ea ∨ ZpXForm .styZeroPageX 0x94#8 st i op len ea ∨
       AbsForm .styAbsolute 0x8C#8 i op len ea) →
      i.opcode = op ∧
        ∃ t, exec i st = .next t ∧ t.read ea = st.y ∧ SameMemoryExcept ea st t ∧
          t = { st with mem := t.mem, pc := st.pc + len, result := none })

/-- TAX, TXA, TAY, TYA and TSX copy the source register and set N and Z from it (R150, R151, R152, R153, R154). At
every state, each of TAX, TXA, TAY, TYA and TSX answers the next state in which the destination holds the source, N
and Z come from the transferred value, PC is advanced by 1, the result is none, and every other register, flag and
cell is unchanged. -/
def Obligations.TransfersCopyAndSetFlags : Prop :=
  ∀ st : State,
    (Instr.opcode .tax = 0xAA#8 ∧ exec .tax st = .next { st with
      x := st.a, flagN := st.a.getLsbD 7, flagZ := decide (st.a = 0#8), pc := st.pc + 1#16, result := none }) ∧
    (Instr.opcode .txa = 0x8A#8 ∧ exec .txa st = .next { st with
      a := st.x, flagN := st.x.getLsbD 7, flagZ := decide (st.x = 0#8), pc := st.pc + 1#16, result := none }) ∧
    (Instr.opcode .tay = 0xA8#8 ∧ exec .tay st = .next { st with
      y := st.a, flagN := st.a.getLsbD 7, flagZ := decide (st.a = 0#8), pc := st.pc + 1#16, result := none }) ∧
    (Instr.opcode .tya = 0x98#8 ∧ exec .tya st = .next { st with
      a := st.y, flagN := st.y.getLsbD 7, flagZ := decide (st.y = 0#8), pc := st.pc + 1#16, result := none }) ∧
    (Instr.opcode .tsx = 0xBA#8 ∧ exec .tsx st = .next { st with
      x := st.s, flagN := st.s.getLsbD 7, flagZ := decide (st.s = 0#8), pc := st.pc + 1#16, result := none })

/-- TXS copies X to the stack pointer and writes no flag (R155). At every state TXS answers the next state with S = X
(so SP = 0x0100 | X), PC advanced by 1, result none, and every flag, every other register and all of memory unchanged.
-/
def Obligations.TxsWritesStackPointerOnly : Prop :=
  ∀ st : State, Instr.opcode .txs = 0x9A#8 ∧
    ∃ t, exec .txs st = .next t ∧ t = { st with s := st.x, pc := st.pc + 1#16, result := none } ∧
      t.sp.toNat = 256 + st.x.toNat

/-- INX, INY, DEX and DEY count modulo 256 and set N and Z from the result (R160, R161, R162, R163). At every state
INX and INY answer a next state whose X (Y) is the old value plus 1 modulo 256, DEX and DEY the old value minus 1
modulo 256; N is set iff the result is at least 128, Z iff it is 0, PC advances by 1, and everything else (C and V
included) is unchanged. -/
def Obligations.IndexIncrementAndDecrementWrap : Prop :=
  ∀ st : State,
    (Instr.opcode .inx = 0xE8#8 ∧ ∃ t, exec .inx st = .next t ∧
      t.x.toNat = (st.x.toNat + 1) % 256 ∧ t.flagN = decide (128 ≤ t.x.toNat) ∧ t.flagZ = decide (t.x.toNat = 0) ∧
      t = { st with x := t.x, flagN := t.flagN, flagZ := t.flagZ, pc := st.pc + 1#16, result := none }) ∧
    (Instr.opcode .iny = 0xC8#8 ∧ ∃ t, exec .iny st = .next t ∧
      t.y.toNat = (st.y.toNat + 1) % 256 ∧ t.flagN = decide (128 ≤ t.y.toNat) ∧ t.flagZ = decide (t.y.toNat = 0) ∧
      t = { st with y := t.y, flagN := t.flagN, flagZ := t.flagZ, pc := st.pc + 1#16, result := none }) ∧
    (Instr.opcode .dex = 0xCA#8 ∧ ∃ t, exec .dex st = .next t ∧
      t.x.toNat = (st.x.toNat + 255) % 256 ∧ t.flagN = decide (128 ≤ t.x.toNat) ∧ t.flagZ = decide (t.x.toNat = 0) ∧
      t = { st with x := t.x, flagN := t.flagN, flagZ := t.flagZ, pc := st.pc + 1#16, result := none }) ∧
    (Instr.opcode .dey = 0x88#8 ∧ ∃ t, exec .dey st = .next t ∧
      t.y.toNat = (st.y.toNat + 255) % 256 ∧ t.flagN = decide (128 ≤ t.y.toNat) ∧ t.flagZ = decide (t.y.toNat = 0) ∧
      t = { st with y := t.y, flagN := t.flagN, flagZ := t.flagZ, pc := st.pc + 1#16, result := none })

/-- INC and DEC count the cell at the effective address modulo 256 and touch no other cell (R164, R165). For every
form of INC (four) and DEC (four), exec answers a next state in which the cell at the effective address is the old
value plus (minus) 1 modulo 256, N and Z come from the new value, every other cell reads as before, PC is advanced by
the length, and A, X, Y, S and the other flags are unchanged. -/
def Obligations.IncAndDecModifyOneCell : Prop :=
  (∀ (st : State) (i : Instr) (op : Byte) (len ea : Word),
      (ZpForm .incZeroPage 0xE6#8 i op len ea ∨ ZpXForm .incZeroPageX 0xF6#8 st i op len ea ∨
       AbsForm .incAbsolute 0xEE#8 i op len ea ∨ AbsXForm .incAbsoluteX 0xFE#8 st i op len ea) →
      i.opcode = op ∧
        ∃ t, exec i st = .next t ∧ (t.read ea).toNat = ((st.read ea).toNat + 1) % 256 ∧ SameMemoryExcept ea st t ∧
          t.flagN = (t.read ea).getLsbD 7 ∧ t.flagZ = decide (t.read ea = 0#8) ∧
          t = { st with mem := t.mem, flagN := t.flagN, flagZ := t.flagZ, pc := st.pc + len, result := none }) ∧
  (∀ (st : State) (i : Instr) (op : Byte) (len ea : Word),
      (ZpForm .decZeroPage 0xC6#8 i op len ea ∨ ZpXForm .decZeroPageX 0xD6#8 st i op len ea ∨
       AbsForm .decAbsolute 0xCE#8 i op len ea ∨ AbsXForm .decAbsoluteX 0xDE#8 st i op len ea) →
      i.opcode = op ∧
        ∃ t, exec i st = .next t ∧ (t.read ea).toNat = ((st.read ea).toNat + 255) % 256 ∧ SameMemoryExcept ea st t ∧
          t.flagN = (t.read ea).getLsbD 7 ∧ t.flagZ = decide (t.read ea = 0#8) ∧
          t = { st with mem := t.mem, flagN := t.flagN, flagZ := t.flagZ, pc := st.pc + len, result := none })

/-- Push writes at 0x0100 + S and decrements S; Pull increments S and reads at 0x0100 + S, both modulo 256 (R170,
R171). For every state and byte: Push writes the byte in the cell 0x0100 + S and no other cell, and leaves S - 1
modulo 256; Pull leaves S + 1 modulo 256, answers the cell 0x0100 + that S, and changes no cell. Neither changes
another register or a flag. -/
def Obligations.PushAndPullUsePageOne : Prop :=
  (∀ (st : State) (v : Byte) (sp : Word), sp.toNat = 256 + st.s.toNat →
    (st.push v).read sp = v ∧ SameMemoryExcept sp st (st.push v) ∧
      (st.push v).s.toNat = (st.s.toNat + 255) % 256 ∧
      st.push v = { st with mem := (st.push v).mem, s := (st.push v).s }) ∧
  (∀ (st : State) (sp : Word), sp.toNat = 256 + (st.s.toNat + 1) % 256 →
    st.pull.1 = st.read sp ∧ st.pull.2.s.toNat = (st.s.toNat + 1) % 256 ∧
      st.pull.2 = { st with s := st.pull.2.s })

/-- N pushes followed by N pulls give the bytes in reverse order, for N up to 256 (R172). For every state and every
list of at most 256 bytes: pushing them in order leaves S lower by their number modulo 256, and pulling as many bytes
then gives them in reverse order and leaves S as it was. After 256 pushes the next push addresses the first pushed
cell again. -/
def Obligations.PushesThenPullsReverse : Prop :=
  ∀ (st : State) (vs : List Byte), vs.length ≤ 256 →
    (pushAll st vs).sp.toNat = 256 + (st.s.toNat + 256 - vs.length) % 256 ∧
    (pullMany (pushAll st vs) vs.length).1 = vs.reverse ∧
    (pullMany (pushAll st vs) vs.length).2.s = st.s

/-- PHA pushes A and PHP the eight flags as stored; no flag is written (R173, R175). At every state PHA (PHP) answers
a next state in which the cell at SP reads A (the status byte with N weighted 1, V 2, U 4, B 8, D 16, I 32, Z 64, C
128), every other cell reads as before, S is one lower modulo 256, PC is advanced by 1, and every other register and
every flag is unchanged. -/
def Obligations.PhaAndPhpPush : Prop :=
  ∀ st : State,
    (Instr.opcode .pha = 0x48#8 ∧ ∃ t, exec .pha st = .next t ∧ t.read (stackCell st.s) = st.a ∧
      SameMemoryExcept (stackCell st.s) st t ∧
      t = { st with mem := t.mem, s := st.s - 1#8, pc := st.pc + 1#16, result := none }) ∧
    (Instr.opcode .php = 0x08#8 ∧ ∃ t, exec .php st = .next t ∧ (t.read (stackCell st.s)).toNat = statusNumber st ∧
      SameMemoryExcept (stackCell st.s) st t ∧
      t = { st with mem := t.mem, s := st.s - 1#8, pc := st.pc + 1#16, result := none })

/-- PLA pulls A with N and Z; PLP pulls all eight flags, B and U included (R174, R176). At every state, with b the
cell 0x0100 | (S + 1): PLA answers the next state with A = b, N and Z from b, result Some(b); PLP the next state with
the eight flags from the bits of b, result Some(b); both leave S + 1, PC + 1 and everything else unchanged. -/
def Obligations.PlaAndPlpPull : Prop :=
  ∀ (st : State) (b : Byte), b = st.read (stackCell (st.s + 1#8)) →
    (Instr.opcode .pla = 0x68#8 ∧ exec .pla st = .next { st with
      a := b, flagN := b.getLsbD 7, flagZ := decide (b = 0#8), s := st.s + 1#8, pc := st.pc + 1#16, result := some b }) ∧
    (Instr.opcode .plp = 0x28#8 ∧ ∃ t, exec .plp st = .next t ∧ statusNumber t = b.toNat ∧
      t = { st with
        flagN := b.getLsbD 0, flagV := b.getLsbD 1, flagU := b.getLsbD 2, flagB := b.getLsbD 3, flagD := b.getLsbD 4,
        flagI := b.getLsbD 5, flagZ := b.getLsbD 6, flagC := b.getLsbD 7, s := st.s + 1#8, pc := st.pc + 1#16,
        result := some b })

/-- Packing and unpacking the status byte are exact inverses, with N at bit 0 and C at bit 7 (R31, R32, R33).
flags_to_byte weighs N 1, V 2, U 4, B 8, D 16, I 32, Z 64, C 128; flags_from_byte sets each flag from its bit and
changes nothing else; unpacking a byte and packing again gives the byte, and packing the flags and unpacking leaves
the state. -/
def Obligations.StatusByteRoundTrips : Prop :=
  ∀ (st : State) (b : Byte),
    st.flagsToByte.toNat = statusNumber st ∧
    st.flagsFromByte b = { st with
      flagN := b.getLsbD 0, flagV := b.getLsbD 1, flagU := b.getLsbD 2, flagB := b.getLsbD 3,
      flagD := b.getLsbD 4, flagI := b.getLsbD 5, flagZ := b.getLsbD 6, flagC := b.getLsbD 7 } ∧
    (st.flagsFromByte b).flagsToByte = b ∧
    st.flagsFromByte st.flagsToByte = st

/-- PHP followed by PLP leaves every flag and S as they were (R176, R33, R172). From every state PHP completes, PLP at
the state it leaves completes, and the final state differs from the first only in memory, PC (two higher) and the
result byte, which is the status byte. -/
def Obligations.PhpThenPlpRestoresFlags : Prop :=
  ∀ st : State, ∃ t u, exec .php st = .next t ∧ exec .plp t = .next u ∧
    u = { st with mem := t.mem, pc := st.pc + 2#16, result := some st.flagsToByte }

/-- JMP writes the effective address to PC, in its Absolute and Indirect forms, and nothing else (R180). At every
state JMP Absolute answers the next state with PC the operand, JMP Indirect the one with PC the address the Indirect
mode computes; the result is none and everything else is unchanged. -/
def Obligations.JmpAssignsProgramCounter : Prop :=
  ∀ (st : State) (addr ptr : Word),
    (Instr.opcode (.jmpAbsolute addr) = 0x4C#8 ∧
      exec (.jmpAbsolute addr) st = .next { st with pc := eaAbsolute addr, result := none }) ∧
    (Instr.opcode (.jmpIndirect ptr) = 0x6C#8 ∧
      exec (.jmpIndirect ptr) st = .next { st with pc := eaIndirect st ptr, result := none })

/-- NOP only advances PC; BRK sets B and advances PC by 1, pushing nothing (R181, R182). At every state NOP answers
the next state with PC + 1 and nothing else changed but the result, which is none; BRK the same with B = 1. -/
def Obligations.NopAndBrkEffects : Prop :=
  ∀ st : State,
    (Instr.opcode .nop = 0xEA#8 ∧ exec .nop st = .next { st with pc := st.pc + 1#16, result := none }) ∧
    (Instr.opcode .brk = 0x00#8 ∧
      exec .brk st = .next { st with flagB := true, pc := st.pc + 1#16, result := none })

/-- JSR pushes PC + 2 high byte first and jumps; no other cell and no flag changes (R183). At every state JSR answers
a next state in which the cell 0x0100 | S holds the high byte of PC + 2 modulo 65536, the cell 0x0100 | (S - 1) its
low byte, every other cell is unchanged, S is 2 lower modulo 256, PC is the operand, the result is none, and every
other register and every flag is unchanged. -/
def Obligations.JsrPushesReturnAddress : Prop :=
  ∀ (st : State) (addr : Word), Instr.opcode (.jsrAbsolute addr) = 0x20#8 ∧
    ∃ t, exec (.jsrAbsolute addr) st = .next t ∧
      (t.read (stackCell st.s)).toNat = (st.pc.toNat + 2) % 65536 / 256 ∧
      (t.read (stackCell (st.s - 1#8))).toNat = (st.pc.toNat + 2) % 256 ∧
      (∀ a, a ≠ stackCell st.s → a ≠ stackCell (st.s - 1#8) → t.read a = st.read a) ∧
      t = { st with mem := t.mem, s := st.s - 2#8, pc := eaAbsolute addr, result := none }

/-- RTS pulls the low byte, then the high byte, and continues at that address plus 1 (R184). At every state RTS
answers the next state with PC = (the cell 0x0100 | (S + 2) as high byte, the cell 0x0100 | (S + 1) as low byte) + 1
modulo 65536, S two higher modulo 256, result none, and everything else unchanged. -/
def Obligations.RtsReturnsPastPulledAddress : Prop :=
  ∀ st : State, Instr.opcode .rts = 0x60#8 ∧
    ∃ t, exec .rts st = .next t ∧
      t.pc.toNat = ((st.read (stackCell (st.s + 2#8))).toNat * 256 + (st.read (stackCell (st.s + 1#8))).toNat + 1) % 65536 ∧
      t = { st with s := st.s + 2#8, pc := t.pc, result := none }

/-- RTI pulls the flag byte, then PC low and high, with no plus 1 (R185). At every state RTI answers the next state
whose eight flags come from the bits of the cell 0x0100 | (S + 1), whose PC has the cell 0x0100 | (S + 3) as high byte
and 0x0100 | (S + 2) as low byte, S three higher modulo 256, result none, and everything else unchanged. -/
def Obligations.RtiRestoresFlagsAndPc : Prop :=
  ∀ (st : State) (b : Byte), b = st.read (stackCell (st.s + 1#8)) →
    Instr.opcode .rti = 0x40#8 ∧ ∃ t, exec .rti st = .next t ∧
      t.pc.toNat = (st.read (stackCell (st.s + 3#8))).toNat * 256 + (st.read (stackCell (st.s + 2#8))).toNat ∧
      t = { st with
        flagN := b.getLsbD 0, flagV := b.getLsbD 1, flagU := b.getLsbD 2, flagB := b.getLsbD 3, flagD := b.getLsbD 4,
        flagI := b.getLsbD 5, flagZ := b.getLsbD 6, flagC := b.getLsbD 7, s := st.s + 3#8, pc := t.pc, result := none }

/-- RTS at the state JSR leaves continues at the instruction after the JSR with S restored (R183, R184, R195). From
every state JSR completes, RTS at the state it leaves completes, and the final state differs from the first only in
memory, PC (three higher) and the result byte. -/
def Obligations.JsrThenRtsReturnsAfterJsr : Prop :=
  ∀ (st : State) (addr : Word), ∃ t u, exec (.jsrAbsolute addr) st = .next t ∧ exec .rts t = .next u ∧
    u = { st with mem := t.mem, pc := st.pc + 3#16, result := none }

/-- Each branch adds its signed displacement to PC + 2 when its flag condition holds, and goes to PC + 2 otherwise
(R186, R187, R188, R189, R190, R191, R192, R193, R194). For each of the eight branches with its opcode byte and its
condition (BPL N=0, BMI N=1, BVC V=0, BVS V=1, BCC C=0, BCS C=1, BNE Z=0, BEQ Z=1), exec answers a next state with PC
= PC + 2 + the displacement as a signed number if the condition holds, PC + 2 otherwise, modulo 65536, and everything
else but the result (none) unchanged. -/
def Obligations.BranchesAddSignedDisplacement : Prop :=
  ∀ (st : State) (i : Instr) (op rel : Byte) (cond : Bool),
    ((i = .bplRelative rel ∧ op = 0x10#8 ∧ cond = (!st.flagN)) ∨
      (i = .bmiRelative rel ∧ op = 0x30#8 ∧ cond = st.flagN) ∨
      (i = .bvcRelative rel ∧ op = 0x50#8 ∧ cond = (!st.flagV)) ∨
      (i = .bvsRelative rel ∧ op = 0x70#8 ∧ cond = st.flagV) ∨
      (i = .bccRelative rel ∧ op = 0x90#8 ∧ cond = (!st.flagC)) ∨
      (i = .bcsRelative rel ∧ op = 0xB0#8 ∧ cond = st.flagC) ∨
      (i = .bneRelative rel ∧ op = 0xD0#8 ∧ cond = (!st.flagZ)) ∨
      (i = .beqRelative rel ∧ op = 0xF0#8 ∧ cond = st.flagZ)) →
    i.opcode = op ∧ ∃ t, exec i st = .next t ∧
      (t.pc.toNat : Int) = ((st.pc.toNat : Int) + 2 + (if cond then rel.toInt else 0)) % 65536 ∧
      t = { st with pc := t.pc, result := none }

/-- ADC adds A, the operand and C: value modulo 256, C the carry out, V the signed overflow; or the decimal fault
(R202). For every form of ADC with operand m: unless D = 1 under DECIMAL_POLICY = Fault, exec answers a next state
with A = (A + m + C) mod 256, C set iff the exact sum exceeds 255, V by the bit formula of the rule and so set iff the
signed sum lies outside -128..127, N and Z from the result, PC advanced by the length and everything else unchanged;
in the excepted case it faults with UnmodelledDecimal at PC with the opcode byte. -/
def Obligations.AdcAddsWithCarry : Prop :=
  ∀ (st : State) (i : Instr) (op : Byte) (len ea : Word) (m : Byte),
    (ImmForm .adcImmediate 0x69#8 i op len m ∨
      m = st.read ea ∧
        (ZpForm .adcZeroPage 0x65#8 i op len ea ∨ ZpXForm .adcZeroPageX 0x75#8 st i op len ea ∨
         IndXForm .adcIndexedIndirectX 0x61#8 st i op len ea ∨ IndYForm .adcIndirectIndexedY 0x71#8 st i op len ea ∨
         AbsForm .adcAbsolute 0x6D#8 i op len ea ∨ AbsXForm .adcAbsoluteX 0x7D#8 st i op len ea ∨
         AbsYForm .adcAbsoluteY 0x79#8 st i op len ea)) →
    i.opcode = op ∧
    (st.flagD = false ∨ st.cfg.decimalPolicy = .binary →
      ∃ t, exec i st = .next t ∧
        t.a.toNat = (st.a.toNat + m.toNat + num st.flagC) % 256 ∧
        (t.flagC = true ↔ 255 < st.a.toNat + m.toNat + num st.flagC) ∧
        t.flagV = (((st.a ^^^ t.a) &&& (m ^^^ t.a) &&& 0x80#8) != 0#8) ∧
        (t.flagV = true ↔ st.a.toInt + m.toInt + num st.flagC < -128 ∨ 127 < st.a.toInt + m.toInt + num st.flagC) ∧
        t.flagN = t.a.getLsbD 7 ∧ t.flagZ = decide (t.a = 0#8) ∧
        t = { st with
          a := t.a, flagN := t.flagN, flagV := t.flagV, flagZ := t.flagZ, flagC := t.flagC, pc := st.pc + len,
          result := none }) ∧
    (st.flagD = true ∧ st.cfg.decimalPolicy = .fault → exec i st = .fault (.unmodelledDecimal st.pc op))

/-- SBC subtracts the operand and the borrow: value modulo 256, C set iff no borrow, V the signed overflow; or the
decimal fault (R203). For every form of SBC with operand m: unless D = 1 under DECIMAL_POLICY = Fault, exec answers a
next state with A = (A - m - (1 - C)) mod 256, C set iff A >= m + (1 - C), V by the bit formula of the rule with the
complemented operand and so set iff the signed difference lies outside -128..127, N and Z from the result, PC advanced
by the length and everything else unchanged; in the excepted case it faults with UnmodelledDecimal at PC with the
opcode byte. -/
def Obligations.SbcSubtractsWithBorrow : Prop :=
  ∀ (st : State) (i : Instr) (op : Byte) (len ea : Word) (m : Byte),
    (ImmForm .sbcImmediate 0xE9#8 i op len m ∨
      m = st.read ea ∧
        (ZpForm .sbcZeroPage 0xE5#8 i op len ea ∨ ZpXForm .sbcZeroPageX 0xF5#8 st i op len ea ∨
         IndXForm .sbcIndexedIndirectX 0xE1#8 st i op len ea ∨ IndYForm .sbcIndirectIndexedY 0xF1#8 st i op len ea ∨
         AbsForm .sbcAbsolute 0xED#8 i op len ea ∨ AbsXForm .sbcAbsoluteX 0xFD#8 st i op len ea ∨
         AbsYForm .sbcAbsoluteY 0xF9#8 st i op len ea)) →
    i.opcode = op ∧
    (st.flagD = false ∨ st.cfg.decimalPolicy = .binary →
      ∃ t, exec i st = .next t ∧
        (t.a.toNat : Int) = ((st.a.toNat : Int) - m.toNat - (1 - num st.flagC)) % 256 ∧
        (t.flagC = true ↔ m.toNat + (1 - num st.flagC) ≤ st.a.toNat) ∧
        t.flagV = (((st.a ^^^ t.a) &&& (~~~m ^^^ t.a) &&& 0x80#8) != 0#8) ∧
        (t.flagV = true ↔ st.a.toInt - m.toInt - (1 - num st.flagC) < -128 ∨ 127 < st.a.toInt - m.toInt - (1 - num st.flagC)) ∧
        t.flagN = t.a.getLsbD 7 ∧ t.flagZ = decide (t.a = 0#8) ∧
        t = { st with
          a := t.a, flagN := t.flagN, flagV := t.flagV, flagZ := t.flagZ, flagC := t.flagC, pc := st.pc + len,
          result := none }) ∧
    (st.flagD = true ∧ st.cfg.decimalPolicy = .fault → exec i st = .fault (.unmodelledDecimal st.pc op))

/-- AND, ORA and EOR combine A with the operand bit by bit, with N and Z from the result, in all their forms (R204,
R205, R206). For every form of AND, ORA and EOR with operand m, exec answers a next state in which bit k of A is the
and (or, exclusive or) of bit k of the old A and of m, N and Z come from the result, PC is advanced by the length, and
everything else (C and V included) is unchanged. -/
def Obligations.LogicOpsBitwise : Prop :=
  (∀ (st : State) (i : Instr) (op : Byte) (len ea : Word) (m : Byte),
    (ImmForm .andImmediate 0x29#8 i op len m ∨
      m = st.read ea ∧
        (ZpForm .andZeroPage 0x25#8 i op len ea ∨ ZpXForm .andZeroPageX 0x35#8 st i op len ea ∨
         IndXForm .andIndexedIndirectX 0x21#8 st i op len ea ∨ IndYForm .andIndirectIndexedY 0x31#8 st i op len ea ∨
         AbsForm .andAbsolute 0x2D#8 i op len ea ∨ AbsXForm .andAbsoluteX 0x3D#8 st i op len ea ∨
         AbsYForm .andAbsoluteY 0x39#8 st i op len ea)) →
    i.opcode = op ∧ ∃ t, exec i st = .next t ∧ (∀ k < 8, t.a.getLsbD k = (st.a.getLsbD k && m.getLsbD k)) ∧
      t = { st with
        a := t.a, flagN := t.a.getLsbD 7, flagZ := decide (t.a = 0#8), pc := st.pc + len, result := none }) ∧
  (∀ (st : State) (i : Instr) (op : Byte) (len ea : Word) (m : Byte),
    (ImmForm .oraImmediate 0x09#8 i op len m ∨
      m = st.read ea ∧
        (ZpForm .oraZeroPage 0x05#8 i op len ea ∨ ZpXForm .oraZeroPageX 0x15#8 st i op len ea ∨
         IndXForm .oraIndexedIndirectX 0x01#8 st i op len ea ∨ IndYForm .oraIndirectIndexedY 0x11#8 st i op len ea ∨
         AbsForm .oraAbsolute 0x0D#8 i op len ea ∨ AbsXForm .oraAbsoluteX 0x1D#8 st i op len ea ∨
         AbsYForm .oraAbsoluteY 0x19#8 st i op len ea)) →
    i.opcode = op ∧ ∃ t, exec i st = .next t ∧ (∀ k < 8, t.a.getLsbD k = (st.a.getLsbD k || m.getLsbD k)) ∧
      t = { st with
        a := t.a, flagN := t.a.getLsbD 7, flagZ := decide (t.a = 0#8), pc := st.pc + len, result := none }) ∧
  (∀ (st : State) (i : Instr) (op : Byte) (len ea : Word) (m : Byte),
    (ImmForm .eorImmediate 0x49#8 i op len m ∨
      m = st.read ea ∧
        (ZpForm .eorZeroPage 0x45#8 i op len ea ∨ ZpXForm .eorZeroPageX 0x55#8 st i op len ea ∨
         IndXForm .eorIndexedIndirectX 0x41#8 st i op len ea ∨ IndYForm .eorIndirectIndexedY 0x51#8 st i op len ea ∨
         AbsForm .eorAbsolute 0x4D#8 i op len ea ∨ AbsXForm .eorAbsoluteX 0x5D#8 st i op len ea ∨
         AbsYForm .eorAbsoluteY 0x59#8 st i op len ea)) →
    i.opcode = op ∧ ∃ t, exec i st = .next t ∧ (∀ k < 8, t.a.getLsbD k = (st.a.getLsbD k != m.getLsbD k)) ∧
      t = { st with
        a := t.a, flagN := t.a.getLsbD 7, flagZ := decide (t.a = 0#8), pc := st.pc + len, result := none })

/-- CMP, CPX and CPY set C iff register >= operand, Z iff equal, N from the difference, and write nothing else (R207,
R208, R209, R210). For every form of CMP, CPX and CPY with operand m, exec answers the next state with C set iff A (X,
Y) >= m unsigned, Z iff they are equal, N the bit 7 of the difference modulo 256, PC advanced by the length, result
none, and everything else unchanged. -/
def Obligations.ComparesSetCarryZeroNegative : Prop :=
  (∀ (st : State) (i : Instr) (op : Byte) (len ea : Word) (m : Byte),
    (ImmForm .cmpImmediate 0xC9#8 i op len m ∨
      m = st.read ea ∧
        (ZpForm .cmpZeroPage 0xC5#8 i op len ea ∨ ZpXForm .cmpZeroPageX 0xD5#8 st i op len ea ∨
         IndXForm .cmpIndexedIndirectX 0xC1#8 st i op len ea ∨ IndYForm .cmpIndirectIndexedY 0xD1#8 st i op len ea ∨
         AbsForm .cmpAbsolute 0xCD#8 i op len ea ∨ AbsXForm .cmpAbsoluteX 0xDD#8 st i op len ea ∨
         AbsYForm .cmpAbsoluteY 0xD9#8 st i op len ea)) →
    i.opcode = op ∧ exec i st = .next { st with
      flagC := decide (m.toNat ≤ st.a.toNat), flagZ := decide (st.a = m), flagN := (st.a - m).getLsbD 7,
      pc := st.pc + len, result := none }) ∧
  (∀ (st : State) (i : Instr) (op : Byte) (len ea : Word) (m : Byte),
    (ImmForm .cpxImmediate 0xE0#8 i op len m ∨
      m = st.read ea ∧
        (ZpForm .cpxZeroPage 0xE4#8 i op len ea ∨ AbsForm .cpxAbsolute 0xEC#8 i op len ea)) →
    i.opcode = op ∧ exec i st = .next { st with
      flagC := decide (m.toNat ≤ st.x.toNat), flagZ := decide (st.x = m), flagN := (st.x - m).getLsbD 7,
      pc := st.pc + len, result := none }) ∧
  (∀ (st : State) (i : Instr) (op : Byte) (len ea : Word) (m : Byte),
    (ImmForm .cpyImmediate 0xC0#8 i op len m ∨
      m = st.read ea ∧
        (ZpForm .cpyZeroPage 0xC4#8 i op len ea ∨ AbsForm .cpyAbsolute 0xCC#8 i op len ea)) →
    i.opcode = op ∧ exec i st = .next { st with
      flagC := decide (m.toNat ≤ st.y.toNat), flagZ := decide (st.y = m), flagN := (st.y - m).getLsbD 7,
      pc := st.pc + len, result := none })

/-- BIT sets Z from A and m, N and V from bits 7 and 6 of m, in both forms (R211). For both forms of BIT with m the
cell at the effective address, exec answers the next state with Z set iff A and m have no common bit, N = m[7], V =
m[6], PC advanced by the length, result none, and everything else (C, A and memory included) unchanged. -/
def Obligations.BitTestsMemoryOperand : Prop :=
  ∀ (st : State) (i : Instr) (op : Byte) (len ea : Word) (m : Byte), m = st.read ea →
    (ZpForm .bitZeroPage 0x24#8 i op len ea ∨ AbsForm .bitAbsolute 0x2C#8 i op len ea) →
    i.opcode = op ∧ ∃ t, exec i st = .next t ∧ (t.flagZ = true ↔ ∀ k < 8, (st.a.getLsbD k && m.getLsbD k) = false) ∧
      t = { st with
        flagZ := t.flagZ, flagN := m.getLsbD 7, flagV := m.getLsbD 6, pc := st.pc + len, result := none }

/-- ASL doubles A or a cell modulo 256, C is the old bit 7, N and Z from the result (R220). For the Accumulator form
and the four memory forms of ASL, exec answers a next state in which the operand (A, or the cell at the effective
address) becomes twice the operand modulo 256, C is its old bit 7, N and Z come from the result, every other cell
reads as before, PC is advanced by the length, and everything else (V included) is unchanged. -/
def Obligations.AslDoublesIntoCarry : Prop :=
  (∀ st : State, Instr.opcode .aslAccumulator = 0x0A#8 ∧ ∃ t, exec .aslAccumulator st = .next t ∧
    t.a.toNat = 2 * st.a.toNat % 256 ∧ t.flagC = decide (128 ≤ st.a.toNat) ∧
    t = { st with
      a := t.a, flagN := t.a.getLsbD 7, flagZ := decide (t.a = 0#8), flagC := t.flagC, pc := st.pc + 1#16,
      result := none }) ∧
  (∀ (st : State) (i : Instr) (op : Byte) (len ea : Word),
      (ZpForm .aslZeroPage 0x06#8 i op len ea ∨ ZpXForm .aslZeroPageX 0x16#8 st i op len ea ∨
       AbsForm .aslAbsolute 0x0E#8 i op len ea ∨ AbsXForm .aslAbsoluteX 0x1E#8 st i op len ea) →
      i.opcode = op ∧
        ∃ t, exec i st = .next t ∧ (t.read ea).toNat = 2 * (st.read ea).toNat % 256 ∧ SameMemoryExcept ea st t ∧
          t.flagC = decide (128 ≤ (st.read ea).toNat) ∧
          t.flagN = (t.read ea).getLsbD 7 ∧ t.flagZ = decide (t.read ea = 0#8) ∧
          t = { st with mem := t.mem, flagN := t.flagN, flagZ := t.flagZ, flagC := t.flagC, pc := st.pc + len, result := none })

/-- LSR halves A or a cell, C is the old bit 0, N and Z from the result (R221). For the Accumulator form and the four
memory forms of LSR, exec answers a next state in which the operand (A, or the cell at the effective address) becomes
half the operand, rounded down (so N is 0), C is its old bit 0, N and Z come from the result, every other cell reads
as before, PC is advanced by the length, and everything else (V included) is unchanged. -/
def Obligations.LsrHalvesIntoCarry : Prop :=
  (∀ st : State, Instr.opcode .lsrAccumulator = 0x4A#8 ∧ ∃ t, exec .lsrAccumulator st = .next t ∧
    t.a.toNat = st.a.toNat / 2 ∧ t.flagC = decide (st.a.toNat % 2 = 1) ∧
    t = { st with
      a := t.a, flagN := t.a.getLsbD 7, flagZ := decide (t.a = 0#8), flagC := t.flagC, pc := st.pc + 1#16,
      result := none }) ∧
  (∀ (st : State) (i : Instr) (op : Byte) (len ea : Word),
      (ZpForm .lsrZeroPage 0x46#8 i op len ea ∨ ZpXForm .lsrZeroPageX 0x56#8 st i op len ea ∨
       AbsForm .lsrAbsolute 0x4E#8 i op len ea ∨ AbsXForm .lsrAbsoluteX 0x5E#8 st i op len ea) →
      i.opcode = op ∧
        ∃ t, exec i st = .next t ∧ (t.read ea).toNat = (st.read ea).toNat / 2 ∧ SameMemoryExcept ea st t ∧
          t.flagC = decide ((st.read ea).toNat % 2 = 1) ∧
          t.flagN = (t.read ea).getLsbD 7 ∧ t.flagZ = decide (t.read ea = 0#8) ∧
          t = { st with mem := t.mem, flagN := t.flagN, flagZ := t.flagZ, flagC := t.flagC, pc := st.pc + len, result := none })

/-- ROL rotates A or a cell left through C, N and Z from the result (R222). For the Accumulator form and the four
memory forms of ROL, exec answers a next state in which the operand (A, or the cell at the effective address) becomes
twice the operand plus the old C, modulo 256, C is its old bit 7, N and Z come from the result, every other cell reads
as before, PC is advanced by the length, and everything else (V included) is unchanged. -/
def Obligations.RolRotatesLeftThroughCarry : Prop :=
  (∀ st : State, Instr.opcode .rolAccumulator = 0x2A#8 ∧ ∃ t, exec .rolAccumulator st = .next t ∧
    t.a.toNat = (2 * st.a.toNat + num st.flagC) % 256 ∧ t.flagC = decide (128 ≤ st.a.toNat) ∧
    t = { st with
      a := t.a, flagN := t.a.getLsbD 7, flagZ := decide (t.a = 0#8), flagC := t.flagC, pc := st.pc + 1#16,
      result := none }) ∧
  (∀ (st : State) (i : Instr) (op : Byte) (len ea : Word),
      (ZpForm .rolZeroPage 0x26#8 i op len ea ∨ ZpXForm .rolZeroPageX 0x36#8 st i op len ea ∨
       AbsForm .rolAbsolute 0x2E#8 i op len ea ∨ AbsXForm .rolAbsoluteX 0x3E#8 st i op len ea) →
      i.opcode = op ∧
        ∃ t, exec i st = .next t ∧ (t.read ea).toNat = (2 * (st.read ea).toNat + num st.flagC) % 256 ∧ SameMemoryExcept ea st t ∧
          t.flagC = decide (128 ≤ (st.read ea).toNat) ∧
          t.flagN = (t.read ea).getLsbD 7 ∧ t.flagZ = decide (t.read ea = 0#8) ∧
          t = { st with mem := t.mem, flagN := t.flagN, flagZ := t.flagZ, flagC := t.flagC, pc := st.pc + len, result := none })

/-- ROR rotates A or a cell right through C, N and Z from the result (R223). For the Accumulator form and the four
memory forms of ROR, exec answers a next state in which the operand (A, or the cell at the effective address) becomes
half the operand plus 128 times the old C, C is its old bit 0, N and Z come from the result, every other cell reads as
before, PC is advanced by the length, and everything else (V included) is unchanged. -/
def Obligations.RorRotatesRightThroughCarry : Prop :=
  (∀ st : State, Instr.opcode .rorAccumulator = 0x6A#8 ∧ ∃ t, exec .rorAccumulator st = .next t ∧
    t.a.toNat = st.a.toNat / 2 + 128 * num st.flagC ∧ t.flagC = decide (st.a.toNat % 2 = 1) ∧
    t = { st with
      a := t.a, flagN := t.a.getLsbD 7, flagZ := decide (t.a = 0#8), flagC := t.flagC, pc := st.pc + 1#16,
      result := none }) ∧
  (∀ (st : State) (i : Instr) (op : Byte) (len ea : Word),
      (ZpForm .rorZeroPage 0x66#8 i op len ea ∨ ZpXForm .rorZeroPageX 0x76#8 st i op len ea ∨
       AbsForm .rorAbsolute 0x6E#8 i op len ea ∨ AbsXForm .rorAbsoluteX 0x7E#8 st i op len ea) →
      i.opcode = op ∧
        ∃ t, exec i st = .next t ∧ (t.read ea).toNat = (st.read ea).toNat / 2 + 128 * num st.flagC ∧ SameMemoryExcept ea st t ∧
          t.flagC = decide ((st.read ea).toNat % 2 = 1) ∧
          t.flagN = (t.read ea).getLsbD 7 ∧ t.flagZ = decide (t.read ea = 0#8) ∧
          t = { st with mem := t.mem, flagN := t.flagN, flagZ := t.flagZ, flagC := t.flagC, pc := st.pc + len, result := none })

/-- CLC, SEC, CLI, SEI, CLD, SED and CLV write their one flag and nothing else (R230, R231, R232, R233, R234, R235,
R236). At every state each of the seven answers the next state with its one flag cleared or set, PC advanced by 1,
result none, and everything else unchanged. -/
def Obligations.FlagOpsWriteOneFlag : Prop :=
  ∀ st : State,
    (Instr.opcode .clc = 0x18#8 ∧
      exec .clc st = .next { st with flagC := false, pc := st.pc + 1#16, result := none }) ∧
    (Instr.opcode .sec = 0x38#8 ∧
      exec .sec st = .next { st with flagC := true, pc := st.pc + 1#16, result := none }) ∧
    (Instr.opcode .cli = 0x58#8 ∧
      exec .cli st = .next { st with flagI := false, pc := st.pc + 1#16, result := none }) ∧
    (Instr.opcode .sei = 0x78#8 ∧
      exec .sei st = .next { st with flagI := true, pc := st.pc + 1#16, result := none }) ∧
    (Instr.opcode .cld = 0xD8#8 ∧
      exec .cld st = .next { st with flagD := false, pc := st.pc + 1#16, result := none }) ∧
    (Instr.opcode .sed = 0xF8#8 ∧
      exec .sed st = .next { st with flagD := true, pc := st.pc + 1#16, result := none }) ∧
    (Instr.opcode .clv = 0xB8#8 ∧
      exec .clv st = .next { st with flagV := false, pc := st.pc + 1#16, result := none })

/-- Words written out from the encoding rules decode to the instructions they stand for (R82, R84, R85). Eleven byte
sequences written from the opcode map, at least one of each family, decode to the instruction the map names with
nothing left over; a 3-byte operand has its high byte first. -/
def Obligations.WrittenOutWordsDecode : Prop :=
  decode [0xA9#8, 0x11#8] = .ok (.ldaImmediate 0x11#8, []) ∧
  decode [0x4C#8, 0xAA#8, 0x55#8] = .ok (.jmpAbsolute 0xAA55#16, []) ∧
  decode [0xAD#8, 0x12#8, 0x34#8] = .ok (.ldaAbsolute 0x1234#16, []) ∧
  decode [0x96#8, 0xF0#8] = .ok (.stxZeroPageY 0xF0#8, []) ∧
  decode [0x9A#8] = .ok (.txs, []) ∧
  decode [0xFE#8, 0x12#8, 0x34#8] = .ok (.incAbsoluteX 0x1234#16, []) ∧
  decode [0x28#8] = .ok (.plp, []) ∧
  decode [0xF0#8, 0xFE#8] = .ok (.beqRelative 0xFE#8, []) ∧
  decode [0x71#8, 0x40#8] = .ok (.adcIndirectIndexedY 0x40#8, []) ∧
  decode [0x6A#8] = .ok (.rorAccumulator, []) ∧
  decode [0xB8#8] = .ok (.clv, [])

/-- Each of the 105 illegal opcode bytes ends the step with IllegalOpcode at PC (R260, R86). At every state whose byte
at PC is one of the 105 of R86, with ILLEGAL_OPCODE_POLICY = Fault, the step ends with the fault IllegalOpcode
carrying PC and that byte; its kind number is 1. That the fault comes with no new state is the form of the outcome
(log entry 3). -/
def Obligations.IllegalByteFaults : Prop :=
  ∀ st : State, (st.read st.pc).toNat ∈ illegalBytes → st.cfg.illegalOpcodePolicy = .fault →
    step st = .fault (.illegalOpcode st.pc (st.read st.pc)) ∧ (Fault.illegalOpcode st.pc (st.read st.pc)).code = 1

/-- Under StallNoOp an illegal opcode byte leaves the state and PC as they are (R261). At every state whose byte at PC
is one of the 105 of R86, with ILLEGAL_OPCODE_POLICY = StallNoOp, the step completes with nothing changed but the
output, which is none; so the next step fetches the same byte. -/
def Obligations.StallPolicyChangesNothing : Prop :=
  ∀ st : State, (st.read st.pc).toNat ∈ illegalBytes → st.cfg.illegalOpcodePolicy = .stallNoOp →
    ∃ t, step st = .next t ∧ t = { st with result := none } ∧ step t = .next t

/-- Every opcode byte that is not one of the 105 illegal bytes decodes to an instruction with that opcode byte (R83,
R84, R86). For every opcode byte outside the list of R86 and all following bytes the decoder answers a well-formed
instruction whose opcode byte is that byte; for a byte in the list it answers the illegal-opcode error naming it. -/
def Obligations.EveryOtherByteDecodes : Prop :=
  ∀ op b1 b2 : Byte,
    (op.toNat ∉ illegalBytes → ∃ i, decodeFetched op b1 b2 = .ok i ∧ i.opcode = op ∧ i.wellFormed = true) ∧
    (op.toNat ∈ illegalBytes → decodeFetched op b1 b2 = .error (.illegalOpcode op))

/-- When the three bytes at PC decode to a well-formed instruction, the step is that instruction's exec (R100, R101,
R103, R104). At every state, if the bytes at PC, PC + 1 and PC + 2 (modulo 65536) decode to a well-formed instruction
i, step is exec of i at that state, with nothing around it: exec itself writes PC. -/
def Obligations.StepRunsDecodedInstruction : Prop :=
  ∀ (st : State) (i : Instr),
    decodeFetched (st.read st.pc) (st.read (st.pc + 1#16)) (st.read (st.pc + 2#16)) = .ok i → i.wellFormed = true →
    step st = exec i st

/-- When memory at PC holds the encoding of an instruction, the step executes it (R80, R100, R101, R103). For every
instruction i and state whose cells at PC, PC + 1, ... (modulo 65536) hold the bytes of encode i, step is exec of i at
that state, whatever the bytes after them. -/
def Obligations.StepRunsEncodedBytes : Prop :=
  ∀ (st : State) (i : Instr),
    (∀ (k : Nat) (h : k < (encode i).length), st.read (st.pc + BitVec.ofNat 16 k) = (encode i)[k]) →
    step st = exec i st

/-- Decoding the encoding of any well-formed instruction gives it back, with the bytes after it (R80, R81, R82, R85).
For every well-formed instruction, with every operand at every value, and every list of bytes after it: decode of
encode i followed by those bytes is i with those bytes left. -/
def Obligations.DecodeOfEncodeIsIdentity : Prop :=
  ∀ (i : Instr) (rest : List Byte), i.wellFormed = true → decode (encode i ++ rest) = .ok (i, rest)

/-- Whatever decodes is the encoding of the instruction it decodes to (R80, R81, R82, R85). For every list of bytes
that decodes to an instruction with some bytes left, the list is the encoding of that instruction followed by those
bytes; so each byte sequence has one meaning. -/
def Obligations.EncodeOfDecodeIsIdentity : Prop :=
  ∀ (bytes rest : List Byte) (i : Instr), decode bytes = .ok (i, rest) → encode i ++ rest = bytes

/-- Every instruction that does not transfer control advances PC by its length (R102, R81). For every instruction
other than JMP, JSR, RTS, RTI and the eight branches, a next state of exec has PC plus the instruction's length modulo
65536. -/
def Obligations.SequentialInstructionsAdvanceByLength : Prop :=
  ∀ (i : Instr) (st t : State),
    i.mnemonic ∉ [.jmp, .jsr, .rts, .rti, .bpl, .bmi, .bvc, .bvs, .bcc, .bcs, .bne, .beq] →
    exec i st = .next t → t.pc = st.pc + BitVec.ofNat 16 i.length

/-- ZeroPage addresses page 0; ZeroPageX and ZeroPageY wrap there, or not, as ZP_INDEXED_WRAP says (R108, R109). The
ZeroPage address is the operand byte; the ZeroPageX (ZeroPageY) address is the operand plus X (Y) modulo 256 when
ZP_INDEXED_WRAP is true and the plain sum otherwise; only LDX and STX have the ZeroPageY mode. -/
def Obligations.ZeroPageAddresses : Prop :=
  (∀ i : Instr, i.mode = .zeroPageY → i.mnemonic = .ldx ∨ i.mnemonic = .stx) ∧
  ∀ (st : State) (zp : Byte),
    (eaZeroPage zp).toNat = zp.toNat ∧
    (eaZeroPageX st zp).toNat = (if st.cfg.zpIndexedWrap then (zp.toNat + st.x.toNat) % 256 else zp.toNat + st.x.toNat) ∧
    (eaZeroPageY st zp).toNat = (if st.cfg.zpIndexedWrap then (zp.toNat + st.y.toNat) % 256 else zp.toNat + st.y.toNat)

/-- Absolute operands are high byte first; AbsoluteX and AbsoluteY add the index modulo 65536 (R110, R112). The
Absolute address of bytes b1, b2 is 256 b1 + b2, and AbsoluteX (AbsoluteY) adds X (Y) to it modulo 65536. -/
def Obligations.AbsoluteAddresses : Prop :=
  ∀ (st : State) (b1 b2 : Byte),
    (eaAbsolute (makeAddress b1 b2)).toNat = 256 * b1.toNat + b2.toNat ∧
    (eaAbsoluteX st (makeAddress b1 b2)).toNat = (256 * b1.toNat + b2.toNat + st.x.toNat) % 65536 ∧
    (eaAbsoluteY st (makeAddress b1 b2)).toNat = (256 * b1.toNat + b2.toNat + st.y.toNat) % 65536

/-- Indirect reads the pointer's two cells in PTR_ORDER, the second in the same page when JMP_IND_PAGE_WRAP is true
(R113, R114). For every pointer, with succ the next address modulo 65536, or within the pointer's page when
JMP_IND_PAGE_WRAP is true, the Indirect address is the number of the cells at ptr and succ in the order PTR_ORDER
gives; only JMP has the Indirect mode. -/
def Obligations.IndirectPointerAddresses : Prop :=
  (∀ i : Instr, i.mode = .indirect → i.mnemonic = .jmp) ∧
  ∀ (st : State) (ptr succ : Word),
    succ.toNat = (if st.cfg.jmpIndPageWrap then ptr.toNat / 256 * 256 + (ptr.toNat % 256 + 1) % 256
      else (ptr.toNat + 1) % 65536) →
    (readPtr st ptr succ).toNat = pointerNumber st ptr succ ∧
    (eaIndirect st ptr).toNat = pointerNumber st ptr succ

/-- (zp,X) and (zp),Y read their pointer in page 0, both cells wrapping there; (zp),Y adds Y modulo 65536 (R115,
R116). For every operand byte: with first and second the page-0 cells at zp + X and zp + X + 1 modulo 256, the (zp,X)
address is the number of those cells in PTR_ORDER; with first and second at zp and zp + 1 modulo 256, the (zp),Y
address is that number plus Y modulo 65536. -/
def Obligations.ZeroPagePointerAddresses : Prop :=
  ∀ (st : State) (zp : Byte) (first second : Word),
    (first.toNat = (zp.toNat + st.x.toNat) % 256 → second.toNat = (zp.toNat + st.x.toNat + 1) % 256 →
      (eaIndexedIndirectX st zp).toNat = pointerNumber st first second) ∧
    (first.toNat = zp.toNat → second.toNat = (zp.toNat + 1) % 256 →
      (eaIndirectIndexedY st zp).toNat = (pointerNumber st first second + st.y.toNat) % 65536)

/-- Every step keeps memory in its canonical form (R50, R53, R65). From every state whose cell list has strictly
rising addresses below 65536 and lists no zero byte, a next state of step has such a list too. The canonical form is
the model's own (log entry 4). -/
def Obligations.StepKeepsMemoryCanonical : Prop :=
  ∀ st t : State, Canonical st → step st = .next t → Canonical t

/-- Memory is in its canonical form at reset and after a program is loaded (R36, R51, R63). State.reset meets the
invariant, so does State.reset with any instruction placed where the next step fetches, and so does every state that
load leaves. The canonical form is the model's own (log entry 4). -/
def Obligations.ResetAndLoadedStatesAreCanonical : Prop :=
  Canonical State.reset ∧ (∀ nbits w : Nat, Canonical (State.reset.withFetchWord nbits w)) ∧
  (∀ (st t : State) (source : List Byte), st.load source = .ok t → Canonical t)

/-- Construction leaves A, X, Y and PC 0, S 0xFF, every flag clear and every cell zero; CPU reset gives the same
registers and flags (R36). State.reset has A = X = Y = 0, S = 0xFF (SP = 0x01FF), PC = 0 and all eight flags 0, and
every cell reads 0x00; the CPU reset of any state gives the same registers and flags. -/
def Obligations.ResetStateValues : Prop :=
  State.reset.a = 0#8 ∧ State.reset.x = 0#8 ∧ State.reset.y = 0#8 ∧ State.reset.s = 0xFF#8 ∧ State.reset.sp = 0x01FF#16 ∧
  State.reset.pc = 0#16 ∧ State.reset.flagN = false ∧ State.reset.flagV = false ∧ State.reset.flagU = false ∧
  State.reset.flagB = false ∧ State.reset.flagD = false ∧ State.reset.flagI = false ∧ State.reset.flagZ = false ∧
  State.reset.flagC = false ∧ (∀ a : Word, State.reset.read a = 0#8) ∧
  (∀ st : State, { st.cpuReset with mem := State.reset.mem, cfg := State.reset.cfg, result := State.reset.result } = State.reset)

/-- CPU reset sets every register and flag and no cell, and twice is once; memory reset clears every cell and no
register (R280, R281, R61). From every state the CPU reset gives A = X = Y = 0, S = 0xFF, PC = 0 and all flags 0 with
memory and parameters unchanged, and doing it twice gives the same; the memory reset makes every cell read 0x00 and
changes no register, flag or parameter. -/
def Obligations.CpuAndMemoryResets : Prop :=
  ∀ st : State,
    (∃ t, st.cpuReset = t ∧ t = { st with
      a := 0#8, x := 0#8, y := 0#8, s := 0xFF#8, pc := 0#16, flagN := false, flagV := false, flagU := false, flagB := false,
      flagD := false, flagI := false, flagZ := false, flagC := false, result := t.result } ∧ t.cpuReset = t) ∧
    (∀ a : Word, st.memoryReset.read a = 0#8) ∧ st.memoryReset = { st with mem := st.memoryReset.mem }

/-- No step changes the five parameters (R34, R8). A next state of step, from every state, holds the same five
parameters. That they stand in State is the model's choice (log entry 1). -/
def Obligations.StepNeverChangesParameters : Prop :=
  ∀ st t : State, step st = .next t → t.cfg = st.cfg

/-- The result byte is the loaded byte for LDA, LDX, LDY, the pulled byte for PLA, PLP, and none otherwise (R119). A
next state of exec carries result Some(A) for LDA and PLA, Some(X) for LDX, Some(Y) for LDY, Some(the status byte) for
PLP, and none for every other mnemonic; a step on an illegal opcode byte under StallNoOp carries none. That State
carries it is the model's choice (log entry 2). -/
def Obligations.ResultByteOfLoadsAndPulls : Prop :=
  (∀ (i : Instr) (st t : State), exec i st = .next t →
    t.result = match i.mnemonic with
      | .lda => some t.a
      | .ldx => some t.x
      | .ldy => some t.y
      | .pla => some t.a
      | .plp => some t.flagsToByte
      | _ => none) ∧
  (∀ (st t : State), (st.read st.pc).toNat ∈ illegalBytes → step st = .next t → t.result = none)

/-- No step depends on the result byte of the step before it (R119, R35). Two states that differ only in the result
byte have the same answer to step: the field is an output only. That State carries it is the model's choice (log entry
2). -/
def Obligations.ResultByteIsNeverRead : Prop :=
  ∀ (st : State) (r : Option Byte), step { st with result := r } = step st

/-- Every decoded instruction completes, except ADC and SBC with D = 1 under DECIMAL_POLICY = Fault (R264, R262). For
every instruction and state, exec answers a next state, or the instruction is ADC or SBC, D = 1, DECIMAL_POLICY =
Fault, and the answer is the fault UnmodelledDecimal with PC and the opcode byte, whose kind number is 2. Nothing is
refused, and under the default policy Binary nothing faults. That the fault comes with no new state is the form of the
outcome (log entry 3). -/
def Obligations.ExecCompletesExceptDecimal : Prop :=
  ∀ (i : Instr) (st : State),
    (∃ t, exec i st = .next t ∧
      ¬ ((i.mnemonic = .adc ∨ i.mnemonic = .sbc) ∧ st.flagD = true ∧ st.cfg.decimalPolicy = .fault)) ∨
    ((i.mnemonic = .adc ∨ i.mnemonic = .sbc) ∧ st.flagD = true ∧ st.cfg.decimalPolicy = .fault ∧
      exec i st = .fault (.unmodelledDecimal st.pc i.opcode) ∧ (Fault.unmodelledDecimal st.pc i.opcode).code = 2)

/-- A step completes, or faults with IllegalOpcode or UnmodelledDecimal naming PC and the byte there (R118, R260,
R262). From every state, step answers a next state, or the fault IllegalOpcode with PC and the byte at PC, or the
fault UnmodelledDecimal with PC and the byte at PC; it never refuses. -/
def Obligations.StepHasThreeOutcomes : Prop :=
  ∀ st : State,
    (∃ t, step st = .next t) ∨ step st = .fault (.illegalOpcode st.pc (st.read st.pc)) ∨
      step st = .fault (.unmodelledDecimal st.pc (st.read st.pc))

/-- No instruction writes a flag outside the writers the spec lists for it (R28). For every flag, an instruction whose
mnemonic is not in the spec's list of that flag's writers leaves it as it was in every next state: N and Z, V, U, B,
D, I and C each have their list; so STA, STX, STY, TXS, PHA, PHP, JMP, JSR, RTS, NOP and the branches write no flag
and BRK writes only B. -/
def Obligations.FlagsHaveOnlyTheirWriters : Prop :=
  ∀ (i : Instr) (st t : State), exec i st = .next t →
    (i.mnemonic ∉ [
        .lda, .ldx, .ldy, .tax, .tay, .txa, .tya, .tsx, .pla, .inx, .iny, .dex, .dey, .adc, .sbc, .and, .ora, .eor, .cmp, .cpx,
        .cpy, .bit, .asl, .lsr, .rol, .ror, .inc, .dec, .plp, .rti] →
      t.flagN = st.flagN ∧ t.flagZ = st.flagZ) ∧
    (i.mnemonic ∉ [.adc, .sbc, .bit, .clv, .plp, .rti] → t.flagV = st.flagV) ∧
    (i.mnemonic ∉ [.plp, .rti] → t.flagU = st.flagU) ∧
    (i.mnemonic ∉ [.brk, .plp, .rti] → t.flagB = st.flagB) ∧
    (i.mnemonic ∉ [.cld, .sed, .plp, .rti] → t.flagD = st.flagD) ∧
    (i.mnemonic ∉ [.cli, .sei, .plp, .rti] → t.flagI = st.flagI) ∧
    (i.mnemonic ∉ [.adc, .sbc, .cmp, .cpx, .cpy, .asl, .lsr, .rol, .ror, .clc, .sec, .plp, .rti] → t.flagC = st.flagC)

/-- A, X, Y, S and memory change only under the mnemonics the spec lists as their writers (R22, R23, R24, R25, R28,
R53). In every next state of exec: A is unchanged outside LDA, TXA, TYA, PLA, ADC, SBC, AND, ORA, EOR and the four
shifts; X outside LDX, TAX, TSX, INX, DEX; Y outside LDY, TAY, INY, DEY; S outside TXS, PHA, PHP, PLA, PLP, JSR, RTS,
RTI; and every cell outside STA, STX, STY, INC, DEC, the four shifts, PHA, PHP and JSR. -/
def Obligations.RegistersAndMemoryHaveOnlyTheirWriters : Prop :=
  ∀ (i : Instr) (st t : State), exec i st = .next t →
    (i.mnemonic ∉ [.lda, .txa, .tya, .pla, .adc, .sbc, .and, .ora, .eor, .asl, .lsr, .rol, .ror] → t.a = st.a) ∧
    (i.mnemonic ∉ [.ldx, .tax, .tsx, .inx, .dex] → t.x = st.x) ∧
    (i.mnemonic ∉ [.ldy, .tay, .iny, .dey] → t.y = st.y) ∧
    (i.mnemonic ∉ [.txs, .pha, .php, .pla, .plp, .jsr, .rts, .rti] → t.s = st.s) ∧
    (i.mnemonic ∉ [.sta, .stx, .sty, .inc, .dec, .asl, .lsr, .rol, .ror, .pha, .php, .jsr] → SameMemory st t)

/-- The I flag influences nothing but PHP: it masks nothing (R263, R27). For every instruction but PHP and every value
of I: if the instruction completes at a state, it completes at the same state with I changed to that value, and the
two next states agree in everything but I. -/
def Obligations.InterruptDisableMasksNothing : Prop :=
  ∀ (i : Instr) (st t : State) (f : Bool), i.mnemonic ≠ .php → exec i st = .next t →
    ∃ t', exec i { st with flagI := f } = .next t' ∧ { t' with flagI := t.flagI } = t

/-- set_byte writes one cell and get_byte reads it back; no other cell, register or flag changes (R53). For every
state, address and byte: after set_byte the cell reads the byte, every other cell reads as before, and no register,
flag or parameter changes. -/
def Obligations.SetByteChangesOneCell : Prop :=
  ∀ (st : State) (a : Word) (v : Byte),
    (st.write a v).read a = v ∧ SameMemoryExcept a st (st.write a v) ∧
      st.write a v = { st with mem := (st.write a v).mem }

/-- set_bytes writes the whole run, or reports OutOfRange when it would pass the end of memory (R60). For every start
and list of bytes: if start plus the length exceeds 65536 the answer is OutOfRange; otherwise it is a state in which
cell start + k holds byte k, every cell outside the run reads as before, and no register, flag or parameter changes.
-/
def Obligations.SetBytesWritesRunOrRejects : Prop :=
  ∀ (st : State) (start : Word) (values : List Byte),
    (start.toNat + values.length > 65536 → st.setBytes start values = .error .outOfRange) ∧
    (start.toNat + values.length ≤ 65536 → ∃ t, st.setBytes start values = .ok t ∧
      (∀ (k : Nat) (h : k < values.length) (a : Word), a.toNat = start.toNat + k → t.read a = values[k]) ∧
      (∀ a : Word, a.toNat < start.toNat ∨ start.toNat + values.length ≤ a.toNat → t.read a = st.read a) ∧
      t = { st with mem := t.mem })

/-- save lists the 65536 cells in order; load takes the first 65536 bytes of a source or reports an I/O error (R62,
R63). save answers 65536 bytes with cell i at offset i; load of a shorter source is an I/O error; load of any other
source makes every cell i equal byte i of the source and changes no register, flag or parameter; so loading a saved
image gives the saved cells. -/
def Obligations.SaveAndLoadImages : Prop :=
  ∀ st u : State,
    st.save.length = 65536 ∧ (∀ a : Word, st.save[a.toNat]? = some (st.read a)) ∧
    (∃ t, u.load st.save = .ok t ∧ ∀ a : Word, t.read a = st.read a) ∧
    (∀ source : List Byte, source.length < 65536 → u.load source = .error .io) ∧
    (∀ source : List Byte, 65536 ≤ source.length →
      ∃ t, u.load source = .ok t ∧ (∀ a : Word, source[a.toNat]? = some (t.read a)) ∧ t = { u with mem := t.mem })

/-- Each host setter writes its own register or flag and nothing else; set_sp keeps the low byte (R242, R243, R244,
R245, R249). For every state and value: set_a, set_x, set_y, set_pc, jump and the eight flag setters write only their
register or flag, and the getter then answers the value; set_sp(v) leaves S = v[7:0] and get_sp then answers 0x0100
plus it. -/
def Obligations.HostSettersWriteOneCell : Prop :=
  ∀ (st : State) (v : Byte) (w : Word) (f : Bool),
    (st.setA v = { st with a := v } ∧ (st.setA v).getA = v) ∧ (st.setX v = { st with x := v } ∧ (st.setX v).getX = v) ∧
    (st.setY v = { st with y := v } ∧ (st.setY v).getY = v) ∧
    (st.setSp w = { st with s := (st.setSp w).s } ∧ (st.setSp w).s.toNat = w.toNat % 256 ∧
      (st.setSp w).getSp.toNat = 256 + w.toNat % 256 ∧ st.getSp.toNat = 256 + st.s.toNat) ∧
    (st.setPc w = { st with pc := w } ∧ (st.setPc w).getPc = w) ∧ st.jump w = { st with pc := w } ∧
    (st.setN f = { st with flagN := f } ∧ (st.setN f).getN = f) ∧ (st.setV f = { st with flagV := f } ∧ (st.setV f).getV = f) ∧
    (st.setU f = { st with flagU := f } ∧ (st.setU f).getU = f) ∧ (st.setB f = { st with flagB := f } ∧ (st.setB f).getB = f) ∧
    (st.setD f = { st with flagD := f } ∧ (st.setD f).getD = f) ∧ (st.setI f = { st with flagI := f } ∧ (st.setI f).getI = f) ∧
    (st.setZ f = { st with flagZ := f } ∧ (st.setZ f).getZ = f) ∧ (st.setC f = { st with flagC := f } ∧ (st.setC f).getC = f)
end

