-- ==== Sys2Proof/Laws/Memory.lean ====
section
/-! SUPPORT. The laws of the cell list: a read after a write, and that every memory operation keeps the canonical form. -/

namespace Sys2Proof.Machine

/-! ### Reading -/

theorem Memory.read_erase_self (m : Memory) (addr : Nat) : (m.erase addr).read addr = 0#8 := by
  induction m with
  | nil => rfl
  | cons c rest ih =>
    by_cases h : c.1 = addr
    · simpa [Memory.erase, h] using ih
    · simpa [Memory.erase, Memory.read, h] using ih

theorem Memory.read_erase_of_ne (m : Memory) {addr other : Nat} (h : other ≠ addr) :
    (m.erase addr).read other = m.read other := by
  induction m with
  | nil => rfl
  | cons c rest ih =>
    by_cases hc : c.1 = addr
    · have : ¬ addr = other := fun e => h e.symm
      simpa [Memory.erase, Memory.read, hc, this] using ih
    · by_cases ho : c.1 = other
      · simp [Memory.erase, Memory.read, ho, h]
      · simp [Memory.erase, Memory.read, hc, ho, ih]

theorem Memory.read_insert_of_ne (m : Memory) {addr other : Nat} (v : Byte) (h : other ≠ addr) :
    (m.insert addr v).read other = m.read other := by
  have h' : ¬ addr = other := fun e => h e.symm
  induction m with
  | nil => simp [Memory.insert, Memory.read, h']
  | cons c rest ih =>
    by_cases hc : addr < c.1
    · simp [Memory.insert, Memory.read, hc, h']
    · simp [Memory.insert, Memory.read, hc, ih]

theorem Memory.read_insert_erase (m : Memory) (addr : Nat) (v : Byte) :
    ((m.erase addr).insert addr v).read addr = v := by
  induction m with
  | nil => simp [Memory.erase, Memory.insert, Memory.read]
  | cons c rest ih =>
    by_cases hc : c.1 = addr
    · simpa [Memory.erase, hc] using ih
    · by_cases hl : addr < c.1 <;> simp [Memory.erase, Memory.insert, Memory.read, hc, hl, ih]

/-- A read after a write: the written cell reads the value. -/
theorem Memory.read_write_self (m : Memory) (addr : Nat) (v : Byte) : (m.write addr v).read addr = v := by
  by_cases h : v = 0#8
  · simpa [Memory.write, h] using Memory.read_erase_self m addr
  · simpa [Memory.write, h] using Memory.read_insert_erase m addr v

/-- A read after a write: every other cell reads as before. -/
theorem Memory.read_write_of_ne (m : Memory) {addr other : Nat} (v : Byte) (h : other ≠ addr) :
    (m.write addr v).read other = m.read other := by
  by_cases hv : v = 0#8
  · simpa [Memory.write, hv] using Memory.read_erase_of_ne m h
  · simpa [Memory.write, hv] using (Memory.read_insert_of_ne _ v h).trans (Memory.read_erase_of_ne m h)

/-! ### The canonical form -/

theorem Memory.wfFrom_mono {low low' : Nat} {m : Memory} (h : m.wfFrom low = true) (hl : low' ≤ low) :
    m.wfFrom low' = true := by
  cases m with
  | nil => rfl
  | cons c rest =>
    simp only [Memory.wfFrom, Bool.and_eq_true, decide_eq_true_eq] at h ⊢
    exact ⟨⟨⟨by omega, h.1.1.2⟩, h.1.2⟩, h.2⟩

theorem Memory.wfFrom_erase {low : Nat} {m : Memory} (addr : Nat) (h : m.wfFrom low = true) :
    (m.erase addr).wfFrom low = true := by
  induction m generalizing low with
  | nil => rfl
  | cons c rest ih =>
    simp only [Memory.wfFrom, Bool.and_eq_true, decide_eq_true_eq] at h
    by_cases hc : c.1 = addr
    · have := ih (Memory.wfFrom_mono h.2 (show low ≤ c.1 + 1 by omega))
      simpa [Memory.erase, hc] using this
    · have := ih h.2
      simp [Memory.erase, hc, Memory.wfFrom, h.1.1.1, h.1.1.2, h.1.2, this]

/-- Erasing leaves no cell at the address. -/
theorem Memory.erase_ne (m : Memory) (addr : Nat) : ∀ c ∈ m.erase addr, c.1 ≠ addr := by
  induction m with
  | nil => simp [Memory.erase]
  | cons c rest ih =>
    by_cases hc : c.1 = addr
    · simpa [Memory.erase, hc] using ih
    · simpa [Memory.erase, hc] using ih

theorem Memory.wfFrom_insert {low : Nat} {m : Memory} {addr : Nat} {v : Byte} (h : m.wfFrom low = true)
    (hne : ∀ c ∈ m, c.1 ≠ addr) (hlow : low ≤ addr) (htop : addr < 65536) (hv : v ≠ 0#8) :
    (m.insert addr v).wfFrom low = true := by
  induction m generalizing low with
  | nil => simp [Memory.insert, Memory.wfFrom, hlow, htop, hv]
  | cons c rest ih =>
    have hc : c.1 ≠ addr := hne c (by simp)
    simp only [Memory.wfFrom, Bool.and_eq_true, decide_eq_true_eq] at h
    by_cases hl : addr < c.1
    · simp [Memory.insert, hl, Memory.wfFrom, hlow, htop, hv, h.1.1.2, h.1.2, h.2]

    · have := ih h.2 (fun d hd => hne d (by simp [hd])) (by omega)
      simp [Memory.insert, hl, Memory.wfFrom, h.1.1.1, h.1.1.2, h.1.2, this]

/-- A write to one of the 65536 cells keeps the canonical form. -/
theorem Memory.wf_write {m : Memory} (h : m.wf = true) {addr : Nat} (v : Byte) (htop : addr < 65536) :
    (m.write addr v).wf = true := by
  have he : (m.erase addr).wfFrom 0 = true := Memory.wfFrom_erase addr h
  by_cases hv : v = 0#8
  · simpa [Memory.write, hv, Memory.wf] using he
  · simpa [Memory.write, hv, Memory.wf] using
      Memory.wfFrom_insert he (Memory.erase_ne m addr) (Nat.zero_le _) htop hv

/-- `set_byte` keeps the canonical form. -/
theorem State.write_wf {st : State} (h : st.mem.wf = true) (ea : Word) (v : Byte) : (st.write ea v).mem.wf = true :=
  Memory.wf_write h v ea.isLt

/-- Push keeps the canonical form. -/
theorem State.push_wf {st : State} (h : st.mem.wf = true) (v : Byte) : (st.push v).mem.wf = true :=
  Memory.wf_write h v st.sp.isLt

/-- Placing three bytes where the next step fetches keeps the canonical form. -/
theorem State.withFetched_wf {st : State} (h : st.mem.wf = true) (op b1 b2 : Byte) :
    (st.withFetched op b1 b2).mem.wf = true :=
  State.write_wf (State.write_wf (State.write_wf h _ _) _ _) _ _

/-- The run of writes of `set_bytes` keeps the canonical form. -/
theorem State.writeRun_wf {st : State} (h : st.mem.wf = true) (start : Nat) (values : List Byte) :
    (st.writeRun start values).mem.wf = true := by
  induction values generalizing st start with
  | nil => exact h
  | cons v rest ih => exact ih (State.write_wf h _ _) _

/-- The memory reset leaves the canonical form. -/
theorem State.memoryReset_wf (st : State) : st.memoryReset.mem.wf = true := rfl

/-- The CPU reset leaves memory alone. -/
theorem State.cpuReset_wf {st : State} (h : st.mem.wf = true) : st.cpuReset.mem.wf = true := h

theorem Memory.wfFrom_ofImage (start : Nat) (image : List Byte) (h : start + image.length ≤ 65536) :
    (Memory.ofImage start image).wfFrom start = true := by
  induction image generalizing start with
  | nil => rfl
  | cons v rest ih =>
    have hr := ih (start + 1) (by simp only [List.length_cons] at h; omega)
    simp only [List.length_cons] at h
    by_cases hv : v = 0#8
    · simpa [Memory.ofImage, hv] using Memory.wfFrom_mono hr (Nat.le_succ start)
    · simp [Memory.ofImage, hv, Memory.wfFrom, hr]
      omega

/-- `load` leaves the canonical form. -/
theorem State.load_wf {st t : State} {source : List Byte} (h : st.load source = .ok t) : t.mem.wf = true := by
  unfold State.load at h
  split at h
  · cases h
  · cases h
    exact Memory.wfFrom_ofImage 0 _ (by simp)

end Sys2Proof.Machine
end

