-- ==== Sys2Proof/Laws/State.lean ====
section
/-! SUPPORT. What each shared update of the state does to each field: one lemma per field per update, all by rfl, so that no
later proof unfolds a record update. -/

namespace Sys2Proof.Machine

variable (st : State)

/-! ### State.write -/

@[simp] theorem State.write_a (ea : Word) (v : Byte) : (st.write ea v).a = st.a := rfl
@[simp] theorem State.write_x (ea : Word) (v : Byte) : (st.write ea v).x = st.x := rfl
@[simp] theorem State.write_y (ea : Word) (v : Byte) : (st.write ea v).y = st.y := rfl
@[simp] theorem State.write_s (ea : Word) (v : Byte) : (st.write ea v).s = st.s := rfl
@[simp] theorem State.write_pc (ea : Word) (v : Byte) : (st.write ea v).pc = st.pc := rfl
@[simp] theorem State.write_flagN (ea : Word) (v : Byte) : (st.write ea v).flagN = st.flagN := rfl
@[simp] theorem State.write_flagV (ea : Word) (v : Byte) : (st.write ea v).flagV = st.flagV := rfl
@[simp] theorem State.write_flagU (ea : Word) (v : Byte) : (st.write ea v).flagU = st.flagU := rfl
@[simp] theorem State.write_flagB (ea : Word) (v : Byte) : (st.write ea v).flagB = st.flagB := rfl
@[simp] theorem State.write_flagD (ea : Word) (v : Byte) : (st.write ea v).flagD = st.flagD := rfl
@[simp] theorem State.write_flagI (ea : Word) (v : Byte) : (st.write ea v).flagI = st.flagI := rfl
@[simp] theorem State.write_flagZ (ea : Word) (v : Byte) : (st.write ea v).flagZ = st.flagZ := rfl
@[simp] theorem State.write_flagC (ea : Word) (v : Byte) : (st.write ea v).flagC = st.flagC := rfl
@[simp] theorem State.write_mem (ea : Word) (v : Byte) : (st.write ea v).mem = st.mem.write ea.toNat v := rfl
@[simp] theorem State.write_cfg (ea : Word) (v : Byte) : (st.write ea v).cfg = st.cfg := rfl
@[simp] theorem State.write_result (ea : Word) (v : Byte) : (st.write ea v).result = st.result := rfl
@[simp] theorem State.write_sp (ea : Word) (v : Byte) : (st.write ea v).sp = st.sp := rfl
@[simp] theorem State.write_flagsToByte (ea : Word) (v : Byte) : (st.write ea v).flagsToByte = st.flagsToByte := rfl

/-! ### State.push -/

@[simp] theorem State.push_a (v : Byte) : (st.push v).a = st.a := rfl
@[simp] theorem State.push_x (v : Byte) : (st.push v).x = st.x := rfl
@[simp] theorem State.push_y (v : Byte) : (st.push v).y = st.y := rfl
@[simp] theorem State.push_s (v : Byte) : (st.push v).s = st.s - 1#8 := rfl
@[simp] theorem State.push_pc (v : Byte) : (st.push v).pc = st.pc := rfl
@[simp] theorem State.push_flagN (v : Byte) : (st.push v).flagN = st.flagN := rfl
@[simp] theorem State.push_flagV (v : Byte) : (st.push v).flagV = st.flagV := rfl
@[simp] theorem State.push_flagU (v : Byte) : (st.push v).flagU = st.flagU := rfl
@[simp] theorem State.push_flagB (v : Byte) : (st.push v).flagB = st.flagB := rfl
@[simp] theorem State.push_flagD (v : Byte) : (st.push v).flagD = st.flagD := rfl
@[simp] theorem State.push_flagI (v : Byte) : (st.push v).flagI = st.flagI := rfl
@[simp] theorem State.push_flagZ (v : Byte) : (st.push v).flagZ = st.flagZ := rfl
@[simp] theorem State.push_flagC (v : Byte) : (st.push v).flagC = st.flagC := rfl
@[simp] theorem State.push_mem (v : Byte) : (st.push v).mem = st.mem.write st.sp.toNat v := rfl
@[simp] theorem State.push_cfg (v : Byte) : (st.push v).cfg = st.cfg := rfl
@[simp] theorem State.push_result (v : Byte) : (st.push v).result = st.result := rfl
@[simp] theorem State.push_flagsToByte (v : Byte) : (st.push v).flagsToByte = st.flagsToByte := rfl

/-! ### State.popped -/

@[simp] theorem State.popped_a : (st.popped).a = st.a := rfl
@[simp] theorem State.popped_x : (st.popped).x = st.x := rfl
@[simp] theorem State.popped_y : (st.popped).y = st.y := rfl
@[simp] theorem State.popped_s : (st.popped).s = st.s + 1#8 := rfl
@[simp] theorem State.popped_pc : (st.popped).pc = st.pc := rfl
@[simp] theorem State.popped_flagN : (st.popped).flagN = st.flagN := rfl
@[simp] theorem State.popped_flagV : (st.popped).flagV = st.flagV := rfl
@[simp] theorem State.popped_flagU : (st.popped).flagU = st.flagU := rfl
@[simp] theorem State.popped_flagB : (st.popped).flagB = st.flagB := rfl
@[simp] theorem State.popped_flagD : (st.popped).flagD = st.flagD := rfl
@[simp] theorem State.popped_flagI : (st.popped).flagI = st.flagI := rfl
@[simp] theorem State.popped_flagZ : (st.popped).flagZ = st.flagZ := rfl
@[simp] theorem State.popped_flagC : (st.popped).flagC = st.flagC := rfl
@[simp] theorem State.popped_mem : (st.popped).mem = st.mem := rfl
@[simp] theorem State.popped_cfg : (st.popped).cfg = st.cfg := rfl
@[simp] theorem State.popped_result : (st.popped).result = st.result := rfl
@[simp] theorem State.popped_read (addr : Word) : (st.popped).read addr = st.read addr := rfl
@[simp] theorem State.popped_flagsToByte : (st.popped).flagsToByte = st.flagsToByte := rfl

/-! ### State.finish -/

@[simp] theorem State.finish_a (target : Word) (res : Option Byte) : (st.finish target res).a = st.a := rfl
@[simp] theorem State.finish_x (target : Word) (res : Option Byte) : (st.finish target res).x = st.x := rfl
@[simp] theorem State.finish_y (target : Word) (res : Option Byte) : (st.finish target res).y = st.y := rfl
@[simp] theorem State.finish_s (target : Word) (res : Option Byte) : (st.finish target res).s = st.s := rfl
@[simp] theorem State.finish_pc (target : Word) (res : Option Byte) : (st.finish target res).pc = target := rfl
@[simp] theorem State.finish_flagN (target : Word) (res : Option Byte) : (st.finish target res).flagN = st.flagN := rfl
@[simp] theorem State.finish_flagV (target : Word) (res : Option Byte) : (st.finish target res).flagV = st.flagV := rfl
@[simp] theorem State.finish_flagU (target : Word) (res : Option Byte) : (st.finish target res).flagU = st.flagU := rfl
@[simp] theorem State.finish_flagB (target : Word) (res : Option Byte) : (st.finish target res).flagB = st.flagB := rfl
@[simp] theorem State.finish_flagD (target : Word) (res : Option Byte) : (st.finish target res).flagD = st.flagD := rfl
@[simp] theorem State.finish_flagI (target : Word) (res : Option Byte) : (st.finish target res).flagI = st.flagI := rfl
@[simp] theorem State.finish_flagZ (target : Word) (res : Option Byte) : (st.finish target res).flagZ = st.flagZ := rfl
@[simp] theorem State.finish_flagC (target : Word) (res : Option Byte) : (st.finish target res).flagC = st.flagC := rfl
@[simp] theorem State.finish_mem (target : Word) (res : Option Byte) : (st.finish target res).mem = st.mem := rfl
@[simp] theorem State.finish_cfg (target : Word) (res : Option Byte) : (st.finish target res).cfg = st.cfg := rfl
@[simp] theorem State.finish_result (target : Word) (res : Option Byte) : (st.finish target res).result = res := rfl
@[simp] theorem State.finish_read (target : Word) (res : Option Byte) (addr : Word) : (st.finish target res).read addr = st.read addr := rfl
@[simp] theorem State.finish_sp (target : Word) (res : Option Byte) : (st.finish target res).sp = st.sp := rfl
@[simp] theorem State.finish_flagsToByte (target : Word) (res : Option Byte) : (st.finish target res).flagsToByte = st.flagsToByte := rfl

/-! ### State.advance -/

@[simp] theorem State.advance_a (len : Word) : (st.advance len).a = st.a := rfl
@[simp] theorem State.advance_x (len : Word) : (st.advance len).x = st.x := rfl
@[simp] theorem State.advance_y (len : Word) : (st.advance len).y = st.y := rfl
@[simp] theorem State.advance_s (len : Word) : (st.advance len).s = st.s := rfl
@[simp] theorem State.advance_pc (len : Word) : (st.advance len).pc = st.pc + len := rfl
@[simp] theorem State.advance_flagN (len : Word) : (st.advance len).flagN = st.flagN := rfl
@[simp] theorem State.advance_flagV (len : Word) : (st.advance len).flagV = st.flagV := rfl
@[simp] theorem State.advance_flagU (len : Word) : (st.advance len).flagU = st.flagU := rfl
@[simp] theorem State.advance_flagB (len : Word) : (st.advance len).flagB = st.flagB := rfl
@[simp] theorem State.advance_flagD (len : Word) : (st.advance len).flagD = st.flagD := rfl
@[simp] theorem State.advance_flagI (len : Word) : (st.advance len).flagI = st.flagI := rfl
@[simp] theorem State.advance_flagZ (len : Word) : (st.advance len).flagZ = st.flagZ := rfl
@[simp] theorem State.advance_flagC (len : Word) : (st.advance len).flagC = st.flagC := rfl
@[simp] theorem State.advance_mem (len : Word) : (st.advance len).mem = st.mem := rfl
@[simp] theorem State.advance_cfg (len : Word) : (st.advance len).cfg = st.cfg := rfl
@[simp] theorem State.advance_result (len : Word) : (st.advance len).result = none := rfl
@[simp] theorem State.advance_read (len : Word) (addr : Word) : (st.advance len).read addr = st.read addr := rfl
@[simp] theorem State.advance_sp (len : Word) : (st.advance len).sp = st.sp := rfl
@[simp] theorem State.advance_flagsToByte (len : Word) : (st.advance len).flagsToByte = st.flagsToByte := rfl

/-! ### State.setNZ -/

@[simp] theorem State.setNZ_a (v : Byte) : (st.setNZ v).a = st.a := rfl
@[simp] theorem State.setNZ_x (v : Byte) : (st.setNZ v).x = st.x := rfl
@[simp] theorem State.setNZ_y (v : Byte) : (st.setNZ v).y = st.y := rfl
@[simp] theorem State.setNZ_s (v : Byte) : (st.setNZ v).s = st.s := rfl
@[simp] theorem State.setNZ_pc (v : Byte) : (st.setNZ v).pc = st.pc := rfl
@[simp] theorem State.setNZ_flagN (v : Byte) : (st.setNZ v).flagN = v.getLsbD 7 := rfl
@[simp] theorem State.setNZ_flagV (v : Byte) : (st.setNZ v).flagV = st.flagV := rfl
@[simp] theorem State.setNZ_flagU (v : Byte) : (st.setNZ v).flagU = st.flagU := rfl
@[simp] theorem State.setNZ_flagB (v : Byte) : (st.setNZ v).flagB = st.flagB := rfl
@[simp] theorem State.setNZ_flagD (v : Byte) : (st.setNZ v).flagD = st.flagD := rfl
@[simp] theorem State.setNZ_flagI (v : Byte) : (st.setNZ v).flagI = st.flagI := rfl
@[simp] theorem State.setNZ_flagZ (v : Byte) : (st.setNZ v).flagZ = (v == 0#8) := rfl
@[simp] theorem State.setNZ_flagC (v : Byte) : (st.setNZ v).flagC = st.flagC := rfl
@[simp] theorem State.setNZ_mem (v : Byte) : (st.setNZ v).mem = st.mem := rfl
@[simp] theorem State.setNZ_cfg (v : Byte) : (st.setNZ v).cfg = st.cfg := rfl
@[simp] theorem State.setNZ_result (v : Byte) : (st.setNZ v).result = st.result := rfl
@[simp] theorem State.setNZ_read (v : Byte) (addr : Word) : (st.setNZ v).read addr = st.read addr := rfl
@[simp] theorem State.setNZ_sp (v : Byte) : (st.setNZ v).sp = st.sp := rfl

/-! ### State.flagsFromByte -/

@[simp] theorem State.flagsFromByte_a (b : Byte) : (st.flagsFromByte b).a = st.a := rfl
@[simp] theorem State.flagsFromByte_x (b : Byte) : (st.flagsFromByte b).x = st.x := rfl
@[simp] theorem State.flagsFromByte_y (b : Byte) : (st.flagsFromByte b).y = st.y := rfl
@[simp] theorem State.flagsFromByte_s (b : Byte) : (st.flagsFromByte b).s = st.s := rfl
@[simp] theorem State.flagsFromByte_pc (b : Byte) : (st.flagsFromByte b).pc = st.pc := rfl
@[simp] theorem State.flagsFromByte_flagN (b : Byte) : (st.flagsFromByte b).flagN = b.getLsbD 0 := rfl
@[simp] theorem State.flagsFromByte_flagV (b : Byte) : (st.flagsFromByte b).flagV = b.getLsbD 1 := rfl
@[simp] theorem State.flagsFromByte_flagU (b : Byte) : (st.flagsFromByte b).flagU = b.getLsbD 2 := rfl
@[simp] theorem State.flagsFromByte_flagB (b : Byte) : (st.flagsFromByte b).flagB = b.getLsbD 3 := rfl
@[simp] theorem State.flagsFromByte_flagD (b : Byte) : (st.flagsFromByte b).flagD = b.getLsbD 4 := rfl
@[simp] theorem State.flagsFromByte_flagI (b : Byte) : (st.flagsFromByte b).flagI = b.getLsbD 5 := rfl
@[simp] theorem State.flagsFromByte_flagZ (b : Byte) : (st.flagsFromByte b).flagZ = b.getLsbD 6 := rfl
@[simp] theorem State.flagsFromByte_flagC (b : Byte) : (st.flagsFromByte b).flagC = b.getLsbD 7 := rfl
@[simp] theorem State.flagsFromByte_mem (b : Byte) : (st.flagsFromByte b).mem = st.mem := rfl
@[simp] theorem State.flagsFromByte_cfg (b : Byte) : (st.flagsFromByte b).cfg = st.cfg := rfl
@[simp] theorem State.flagsFromByte_result (b : Byte) : (st.flagsFromByte b).result = st.result := rfl
@[simp] theorem State.flagsFromByte_read (b : Byte) (addr : Word) : (st.flagsFromByte b).read addr = st.read addr := rfl
@[simp] theorem State.flagsFromByte_sp (b : Byte) : (st.flagsFromByte b).sp = st.sp := rfl

/-! ### State.compare -/

@[simp] theorem State.compare_a (reg m : Byte) : (st.compare reg m).a = st.a := rfl
@[simp] theorem State.compare_x (reg m : Byte) : (st.compare reg m).x = st.x := rfl
@[simp] theorem State.compare_y (reg m : Byte) : (st.compare reg m).y = st.y := rfl
@[simp] theorem State.compare_s (reg m : Byte) : (st.compare reg m).s = st.s := rfl
@[simp] theorem State.compare_pc (reg m : Byte) : (st.compare reg m).pc = st.pc := rfl
@[simp] theorem State.compare_flagN (reg m : Byte) : (st.compare reg m).flagN = (reg - m).getLsbD 7 := rfl
@[simp] theorem State.compare_flagV (reg m : Byte) : (st.compare reg m).flagV = st.flagV := rfl
@[simp] theorem State.compare_flagU (reg m : Byte) : (st.compare reg m).flagU = st.flagU := rfl
@[simp] theorem State.compare_flagB (reg m : Byte) : (st.compare reg m).flagB = st.flagB := rfl
@[simp] theorem State.compare_flagD (reg m : Byte) : (st.compare reg m).flagD = st.flagD := rfl
@[simp] theorem State.compare_flagI (reg m : Byte) : (st.compare reg m).flagI = st.flagI := rfl
@[simp] theorem State.compare_flagZ (reg m : Byte) : (st.compare reg m).flagZ = (reg == m) := rfl
@[simp] theorem State.compare_flagC (reg m : Byte) : (st.compare reg m).flagC = decide (m.toNat ≤ reg.toNat) := rfl
@[simp] theorem State.compare_mem (reg m : Byte) : (st.compare reg m).mem = st.mem := rfl
@[simp] theorem State.compare_cfg (reg m : Byte) : (st.compare reg m).cfg = st.cfg := rfl
@[simp] theorem State.compare_result (reg m : Byte) : (st.compare reg m).result = st.result := rfl
@[simp] theorem State.compare_read (reg m : Byte) (addr : Word) : (st.compare reg m).read addr = st.read addr := rfl
@[simp] theorem State.compare_sp (reg m : Byte) : (st.compare reg m).sp = st.sp := rfl

/-! ### State.addToA -/

@[simp] theorem State.addToA_a (q : Byte) : (st.addToA q).a = BitVec.ofNat 8 (sumOf st.a q st.flagC) := rfl
@[simp] theorem State.addToA_x (q : Byte) : (st.addToA q).x = st.x := rfl
@[simp] theorem State.addToA_y (q : Byte) : (st.addToA q).y = st.y := rfl
@[simp] theorem State.addToA_s (q : Byte) : (st.addToA q).s = st.s := rfl
@[simp] theorem State.addToA_pc (q : Byte) : (st.addToA q).pc = st.pc := rfl
@[simp] theorem State.addToA_flagN (q : Byte) : (st.addToA q).flagN = (BitVec.ofNat 8 (sumOf st.a q st.flagC)).getLsbD 7 := rfl
@[simp] theorem State.addToA_flagV (q : Byte) : (st.addToA q).flagV = overflowOf st.a q (BitVec.ofNat 8 (sumOf st.a q st.flagC)) := rfl
@[simp] theorem State.addToA_flagU (q : Byte) : (st.addToA q).flagU = st.flagU := rfl
@[simp] theorem State.addToA_flagB (q : Byte) : (st.addToA q).flagB = st.flagB := rfl
@[simp] theorem State.addToA_flagD (q : Byte) : (st.addToA q).flagD = st.flagD := rfl
@[simp] theorem State.addToA_flagI (q : Byte) : (st.addToA q).flagI = st.flagI := rfl
@[simp] theorem State.addToA_flagZ (q : Byte) : (st.addToA q).flagZ = (BitVec.ofNat 8 (sumOf st.a q st.flagC) == 0#8) := rfl
@[simp] theorem State.addToA_flagC (q : Byte) : (st.addToA q).flagC = decide (sumOf st.a q st.flagC > 255) := rfl
@[simp] theorem State.addToA_mem (q : Byte) : (st.addToA q).mem = st.mem := rfl
@[simp] theorem State.addToA_cfg (q : Byte) : (st.addToA q).cfg = st.cfg := rfl
@[simp] theorem State.addToA_result (q : Byte) : (st.addToA q).result = st.result := rfl
@[simp] theorem State.addToA_read (q : Byte) (addr : Word) : (st.addToA q).read addr = st.read addr := rfl
@[simp] theorem State.addToA_sp (q : Byte) : (st.addToA q).sp = st.sp := rfl

end Sys2Proof.Machine
end

