-- ==== Sys2Proof/Laws/Ops.lean ====
section
/-! SUPPORT. The address helpers as numbers, reads after writes through the state, and what Push, Pull, a raised fault and the
illegal-opcode path can do. -/

namespace Sys2Proof

theorem makeAddress_toNat (hi lo : Byte) : (makeAddress hi lo).toNat = hi.toNat * 256 + lo.toNat := by
  have h : (makeAddress hi lo).toNat = hi.toNat <<< 8 ||| lo.toNat := BitVec.toNat_append hi lo
  rw [h, ← Nat.shiftLeft_add_eq_or_of_lt (by simpa using lo.isLt), Nat.shiftLeft_eq]

theorem hiByte_toNat (w : Word) : (hiByte w).toNat = w.toNat / 256 := by
  have := w.isLt
  simp only [hiByte, BitVec.extractLsb'_toNat, Nat.shiftRight_eq_div_pow]
  omega

theorem loByte_toNat (w : Word) : (loByte w).toNat = w.toNat % 256 := by
  simp only [loByte, BitVec.extractLsb'_toNat, Nat.shiftRight_zero]

@[simp] theorem hiByte_makeAddress (hi lo : Byte) : hiByte (makeAddress hi lo) = hi := by
  apply BitVec.eq_of_toNat_eq
  have := lo.isLt
  rw [hiByte_toNat, makeAddress_toNat]
  omega

@[simp] theorem loByte_makeAddress (hi lo : Byte) : loByte (makeAddress hi lo) = lo := by
  apply BitVec.eq_of_toNat_eq
  have := lo.isLt
  rw [loByte_toNat, makeAddress_toNat]
  omega

@[simp] theorem makeAddress_hiByte_loByte (w : Word) : makeAddress (hiByte w) (loByte w) = w := by
  apply BitVec.eq_of_toNat_eq
  rw [makeAddress_toNat, hiByte_toNat, loByte_toNat]
  omega

namespace Machine

theorem zext16_toNat (v : Byte) : (zext16 v).toNat = v.toNat := by
  have := v.isLt
  simp only [zext16, BitVec.zeroExtend, BitVec.toNat_setWidth]
  omega

theorem sext16_toInt (v : Byte) : (sext16 v).toInt = v.toInt := by
  simp [sext16, BitVec.toInt_signExtend_of_le]

theorem page1_toNat (v : Byte) : (0x0100#16 ||| zext16 v).toNat = 256 + v.toNat := by
  have h : (0x0100#16 ||| zext16 v) = makeAddress 1#8 v := by
    simp only [makeAddress, zext16]
    revert v
    decide
  rw [h, makeAddress_toNat]
  rfl

/-- The stack pointer's view is always in page 1. -/
theorem State.sp_toNat (st : State) : st.sp.toNat = 256 + st.s.toNat := page1_toNat st.s

/-- A read after `set_byte`: the written cell. -/
@[simp] theorem State.read_write_self (st : State) (ea : Word) (v : Byte) : (st.write ea v).read ea = v :=
  Memory.read_write_self _ _ _

/-- A read after `set_byte`: every other cell. -/
theorem State.read_write_of_ne (st : State) {ea other : Word} (v : Byte) (h : other ≠ ea) :
    (st.write ea v).read other = st.read other :=
  Memory.read_write_of_ne _ _ fun e => h (BitVec.eq_of_toNat_eq e)

/-- Everything Push can do. -/
theorem State.push_eq (st : State) (v : Byte) : st.push v = { st.write st.sp v with s := st.s - 1#8 } := rfl

@[simp] theorem State.read_push_self (st : State) (v : Byte) : (st.push v).read st.sp = v :=
  Memory.read_write_self _ _ _

theorem State.read_push_of_ne (st : State) {other : Word} (v : Byte) (h : other ≠ st.sp) :
    (st.push v).read other = st.read other :=
  Memory.read_write_of_ne _ _ fun e => h (BitVec.eq_of_toNat_eq e)

/-- Everything Pull can do: the byte it answers and the state it leaves. -/
theorem State.pull_eq (st : State) :
    st.pull = (st.read (0x0100#16 ||| zext16 (st.s + 1#8)), { st with s := st.s + 1#8 }) := rfl

/-- A raised fault names the PC and the opcode byte, and there is no other effect. -/
theorem raise_cases {kind : FaultKind} {op : Byte} {st : State} {ans : Answer} (h : raise kind op st = ans) :
    ans = .fault (.illegalOpcode st.pc op) ∨ ans = .fault (.unmodelledDecimal st.pc op) := by
  cases kind
  · exact .inl h.symm
  · exact .inr h.symm

/-- The illegal-opcode path faults, or completes with nothing changed but the output. -/
theorem illegalOpcodeStep_cases {op : Byte} {st : State} {ans : Answer} (h : illegalOpcodeStep op st = ans) :
    (st.cfg.illegalOpcodePolicy = .fault ∧ ans = .fault (.illegalOpcode st.pc op)) ∨
      (st.cfg.illegalOpcodePolicy = .stallNoOp ∧ ans = .next { st with result := none }) := by
  unfold illegalOpcodeStep at h
  split at h
  · exact .inl ⟨‹_›, h.symm⟩
  · exact .inr ⟨‹_›, h.symm⟩

end Machine

end Sys2Proof
end

