-- ==== Sys2Proof/Laws/Effects.lean ====
section
/-! SUPPORT. One lemma for each shared effect the instruction meanings call: its whole answer. -/

namespace Sys2Proof.Machine

variable (st : State)

theorem loadA_eq (v : Byte) (len : Word) : loadA v len st = .next { st with
    a := v, flagN := v.getLsbD 7, flagZ := v == 0#8, pc := st.pc + len, result := some v } := rfl

theorem loadX_eq (v : Byte) (len : Word) : loadX v len st = .next { st with
    x := v, flagN := v.getLsbD 7, flagZ := v == 0#8, pc := st.pc + len, result := some v } := rfl

theorem loadY_eq (v : Byte) (len : Word) : loadY v len st = .next { st with
    y := v, flagN := v.getLsbD 7, flagZ := v == 0#8, pc := st.pc + len, result := some v } := rfl

theorem store_eq (ea : Word) (v : Byte) (len : Word) : store ea v len st = .next { st with
    mem := st.mem.write ea.toNat v, pc := st.pc + len, result := none } := rfl

theorem modifyCell_eq (f : Byte → Byte) (ea len : Word) : modifyCell f ea len st = .next { st with
    mem := st.mem.write ea.toNat (f (st.read ea)), flagN := (f (st.read ea)).getLsbD 7, flagZ := f (st.read ea) == 0#8,
    pc := st.pc + len, result := none } := rfl

theorem branch_eq (cond : Bool) (rel : Byte) : branch cond rel st = .next { st with
    pc := if cond then st.pc + 2#16 + sext16 rel else st.pc + 2#16, result := none } := rfl

/-- What JSR pushes: the high byte at SP, the low byte one cell lower. -/
theorem pushAddress_eq (ret : Word) : pushAddress ret st =
    { (st.write (0x0100#16 ||| zext16 st.s) (hiByte ret)).write (0x0100#16 ||| zext16 (st.s - 1#8)) (loByte ret) with
      s := st.s - 1#8 - 1#8 } := rfl

/-- Two pulls, low byte first. -/
theorem pullAddress_eq : pullAddress st =
    (makeAddress (st.read (0x0100#16 ||| zext16 (st.s + 1#8 + 1#8))) (st.read (0x0100#16 ||| zext16 (st.s + 1#8))),
      { st with s := st.s + 1#8 + 1#8 }) := rfl

/-- DecimalCheck stops the instruction exactly when D = 1 under the Fault policy. -/
theorem decimalChecked_cases {st : State} {op : Byte} {done : State} {ans : Answer} (h : decimalChecked op st done = ans) :
    (st.flagD = true ∧ st.cfg.decimalPolicy = .fault ∧ ans = .fault (.unmodelledDecimal st.pc op)) ∨
      ((st.flagD = false ∨ st.cfg.decimalPolicy = .binary) ∧ ans = .next done) := by
  unfold decimalChecked at h
  split at h
  · rename_i hc
    simp only [Bool.and_eq_true, beq_iff_eq] at hc
    exact .inl ⟨hc.1, hc.2, h.symm⟩
  · rename_i hc
    refine .inr ⟨?_, h.symm⟩
    cases hd : st.flagD <;> cases hp : st.cfg.decimalPolicy <;> simp_all

theorem logicA_eq (r : Byte) (len : Word) : logicA r len st = .next { st with
    a := r, flagN := r.getLsbD 7, flagZ := r == 0#8, pc := st.pc + len, result := none } := rfl

theorem compareWith_eq (reg m : Byte) (len : Word) : compareWith reg m len st = .next { st with
    flagC := decide (m.toNat ≤ reg.toNat), flagZ := reg == m, flagN := (reg - m).getLsbD 7,
    pc := st.pc + len, result := none } := rfl

theorem bitTest_eq (m : Byte) (len : Word) : bitTest m len st = .next { st with
    flagZ := (st.a &&& m) == 0#8, flagN := m.getLsbD 7, flagV := m.getLsbD 6, pc := st.pc + len, result := none } := rfl

theorem shiftA_eq (f : Shifter) : shiftA f st = .next { st with
    a := (f st.a st.flagC).1, flagC := (f st.a st.flagC).2, flagN := (f st.a st.flagC).1.getLsbD 7,
    flagZ := (f st.a st.flagC).1 == 0#8, pc := st.pc + 1#16, result := none } := rfl

theorem shiftCell_eq (f : Shifter) (ea len : Word) : shiftCell f ea len st = .next { st with
    mem := st.mem.write ea.toNat (f (st.read ea) st.flagC).1, flagC := (f (st.read ea) st.flagC).2,
    flagN := (f (st.read ea) st.flagC).1.getLsbD 7, flagZ := (f (st.read ea) st.flagC).1 == 0#8,
    pc := st.pc + len, result := none } := rfl

/-! ### The instructions that pull -/

theorem exec_pla : exec .pla st = .next { st with
    a := st.read (0x0100#16 ||| zext16 (st.s + 1#8)), flagN := (st.read (0x0100#16 ||| zext16 (st.s + 1#8))).getLsbD 7,
    flagZ := st.read (0x0100#16 ||| zext16 (st.s + 1#8)) == 0#8, s := st.s + 1#8, pc := st.pc + 1#16,
    result := some (st.read (0x0100#16 ||| zext16 (st.s + 1#8))) } := rfl

theorem exec_plp : exec .plp st = .next (({ st with s := st.s + 1#8 }.flagsFromByte
    (st.read (0x0100#16 ||| zext16 (st.s + 1#8)))).finish (st.pc + 1#16)
      (some (st.read (0x0100#16 ||| zext16 (st.s + 1#8))))) := rfl

theorem exec_rts : exec .rts st = .next { st with
    s := st.s + 1#8 + 1#8,
    pc := makeAddress (st.read (0x0100#16 ||| zext16 (st.s + 1#8 + 1#8))) (st.read (0x0100#16 ||| zext16 (st.s + 1#8))) +
      1#16,
    result := none } := rfl

theorem exec_rti : exec .rti st = .next ({ st with
    s := st.s + 1#8 + 1#8 + 1#8,
    pc := makeAddress (st.read (0x0100#16 ||| zext16 (st.s + 1#8 + 1#8 + 1#8)))
      (st.read (0x0100#16 ||| zext16 (st.s + 1#8 + 1#8))),
    result := none }.flagsFromByte (st.read (0x0100#16 ||| zext16 (st.s + 1#8)))) := rfl

end Sys2Proof.Machine
end

