-- ==== Sys2Proof/Laws/Exec.lean ====
section
/-! SUPPORT. What any instruction and any step can do to memory, said once: no write, one write, or the two pushes of JSR. -/

namespace Sys2Proof.Machine

/-- The memory of a next state: no write, one write, or two pushes. -/
def MemOutcome (st : State) (ans : Answer) : Prop :=
  ∀ t, ans = .next t →
    t.mem = st.mem ∨ (∃ ea v, t.mem = (st.write ea v).mem) ∨ ∃ v w, t.mem = ((st.push v).push w).mem

theorem MemOutcome.same {st u : State} (h : u.mem = st.mem) : MemOutcome st (.next u) := by
  rintro t ⟨⟩
  exact .inl h

theorem MemOutcome.one {st u : State} (ea : Word) (v : Byte) (h : u.mem = (st.write ea v).mem) :
    MemOutcome st (.next u) := by
  rintro t ⟨⟩
  exact .inr (.inl ⟨ea, v, h⟩)

theorem MemOutcome.two {st u : State} (v w : Byte) (h : u.mem = ((st.push v).push w).mem) : MemOutcome st (.next u) := by
  rintro t ⟨⟩
  exact .inr (.inr ⟨v, w, h⟩)

theorem MemOutcome.checked {st u : State} {op : Byte} (h : u.mem = st.mem) : MemOutcome st (decimalChecked op st u) := by
  intro t ht
  obtain ⟨-, -, h'⟩ | ⟨-, h'⟩ := decimalChecked_cases ht
  · cases h'
  · exact MemOutcome.same h t h'.symm

/-- The memory after an instruction that completes. -/
theorem exec_memOutcome (i : Instr) (st : State) : MemOutcome st (exec i st) := by
  cases i
  case jsrAbsolute => exact .two _ _ rfl
  case rti => exact .same rfl
  case rts => exact .same rfl
  case pla => exact .same rfl
  case plp => exact .same rfl
  all_goals first
    | exact .checked rfl
    | exact .one _ _ rfl
    | exact .same rfl

/-- The memory after a step that completes. -/
theorem step_memOutcome (st : State) : MemOutcome st (step st) := by
  unfold step
  split
  · exact exec_memOutcome _ st
  · intro t ht
    obtain ⟨-, h⟩ | ⟨-, h⟩ := illegalOpcodeStep_cases ht
    · cases h
    · cases h
      exact .inl rfl

end Sys2Proof.Machine
end

