-- ==== Sys2Proof/Laws/PerInstr.lean ====
section
/-! SUPPORT. One statement about every instruction as syntax, one lemma a constructor: the decoder's table and the encoder hold
the same row of the opcode map (spec/30_encoding.md R83, R85), and the encoding is as long as the mode says (R81). -/

namespace Sys2Proof.Laws.Encoding

/-- The instruction is well formed, the opcode table pairs its opcode byte with its mnemonic and mode, and its encoding has the
length of its mode. -/
def Statement (i : Sys2Proof.Instr) : Prop :=
  i.wellFormed = true ∧ Sys2Proof.opcodeMap i.opcode = some i.pairing ∧ (Sys2Proof.encode i).length = i.length

theorem ldaImmediate (imm : Sys2Proof.Byte) : Statement (.ldaImmediate imm) := ⟨rfl, show Sys2Proof.opcodeMap 0xA9#8 = _ from rfl, rfl⟩
theorem ldaZeroPage (zp : Sys2Proof.Byte) : Statement (.ldaZeroPage zp) := ⟨rfl, show Sys2Proof.opcodeMap 0xA5#8 = _ from rfl, rfl⟩
theorem ldaZeroPageX (zp : Sys2Proof.Byte) : Statement (.ldaZeroPageX zp) := ⟨rfl, show Sys2Proof.opcodeMap 0xB5#8 = _ from rfl, rfl⟩
theorem ldaIndexedIndirectX (zp : Sys2Proof.Byte) : Statement (.ldaIndexedIndirectX zp) := ⟨rfl, show Sys2Proof.opcodeMap 0xA1#8 = _ from rfl, rfl⟩
theorem ldaIndirectIndexedY (zp : Sys2Proof.Byte) : Statement (.ldaIndirectIndexedY zp) := ⟨rfl, show Sys2Proof.opcodeMap 0xB1#8 = _ from rfl, rfl⟩
theorem ldaAbsolute (addr : Sys2Proof.Word) : Statement (.ldaAbsolute addr) := ⟨rfl, show Sys2Proof.opcodeMap 0xAD#8 = _ from rfl, rfl⟩
theorem ldaAbsoluteX (addr : Sys2Proof.Word) : Statement (.ldaAbsoluteX addr) := ⟨rfl, show Sys2Proof.opcodeMap 0xBD#8 = _ from rfl, rfl⟩
theorem ldaAbsoluteY (addr : Sys2Proof.Word) : Statement (.ldaAbsoluteY addr) := ⟨rfl, show Sys2Proof.opcodeMap 0xB9#8 = _ from rfl, rfl⟩
theorem ldxImmediate (imm : Sys2Proof.Byte) : Statement (.ldxImmediate imm) := ⟨rfl, show Sys2Proof.opcodeMap 0xA2#8 = _ from rfl, rfl⟩
theorem ldxZeroPage (zp : Sys2Proof.Byte) : Statement (.ldxZeroPage zp) := ⟨rfl, show Sys2Proof.opcodeMap 0xA6#8 = _ from rfl, rfl⟩
theorem ldxZeroPageY (zp : Sys2Proof.Byte) : Statement (.ldxZeroPageY zp) := ⟨rfl, show Sys2Proof.opcodeMap 0xB6#8 = _ from rfl, rfl⟩
theorem ldxAbsolute (addr : Sys2Proof.Word) : Statement (.ldxAbsolute addr) := ⟨rfl, show Sys2Proof.opcodeMap 0xAE#8 = _ from rfl, rfl⟩
theorem ldxAbsoluteY (addr : Sys2Proof.Word) : Statement (.ldxAbsoluteY addr) := ⟨rfl, show Sys2Proof.opcodeMap 0xBE#8 = _ from rfl, rfl⟩
theorem ldyImmediate (imm : Sys2Proof.Byte) : Statement (.ldyImmediate imm) := ⟨rfl, show Sys2Proof.opcodeMap 0xA0#8 = _ from rfl, rfl⟩
theorem ldyZeroPage (zp : Sys2Proof.Byte) : Statement (.ldyZeroPage zp) := ⟨rfl, show Sys2Proof.opcodeMap 0xA4#8 = _ from rfl, rfl⟩
theorem ldyZeroPageX (zp : Sys2Proof.Byte) : Statement (.ldyZeroPageX zp) := ⟨rfl, show Sys2Proof.opcodeMap 0xB4#8 = _ from rfl, rfl⟩
theorem ldyAbsolute (addr : Sys2Proof.Word) : Statement (.ldyAbsolute addr) := ⟨rfl, show Sys2Proof.opcodeMap 0xAC#8 = _ from rfl, rfl⟩
theorem ldyAbsoluteX (addr : Sys2Proof.Word) : Statement (.ldyAbsoluteX addr) := ⟨rfl, show Sys2Proof.opcodeMap 0xBC#8 = _ from rfl, rfl⟩
theorem staZeroPage (zp : Sys2Proof.Byte) : Statement (.staZeroPage zp) := ⟨rfl, show Sys2Proof.opcodeMap 0x85#8 = _ from rfl, rfl⟩
theorem staZeroPageX (zp : Sys2Proof.Byte) : Statement (.staZeroPageX zp) := ⟨rfl, show Sys2Proof.opcodeMap 0x95#8 = _ from rfl, rfl⟩
theorem staIndexedIndirectX (zp : Sys2Proof.Byte) : Statement (.staIndexedIndirectX zp) := ⟨rfl, show Sys2Proof.opcodeMap 0x81#8 = _ from rfl, rfl⟩
theorem staIndirectIndexedY (zp : Sys2Proof.Byte) : Statement (.staIndirectIndexedY zp) := ⟨rfl, show Sys2Proof.opcodeMap 0x91#8 = _ from rfl, rfl⟩
theorem staAbsolute (addr : Sys2Proof.Word) : Statement (.staAbsolute addr) := ⟨rfl, show Sys2Proof.opcodeMap 0x8D#8 = _ from rfl, rfl⟩
theorem staAbsoluteX (addr : Sys2Proof.Word) : Statement (.staAbsoluteX addr) := ⟨rfl, show Sys2Proof.opcodeMap 0x9D#8 = _ from rfl, rfl⟩
theorem staAbsoluteY (addr : Sys2Proof.Word) : Statement (.staAbsoluteY addr) := ⟨rfl, show Sys2Proof.opcodeMap 0x99#8 = _ from rfl, rfl⟩
theorem stxZeroPage (zp : Sys2Proof.Byte) : Statement (.stxZeroPage zp) := ⟨rfl, show Sys2Proof.opcodeMap 0x86#8 = _ from rfl, rfl⟩
theorem stxZeroPageY (zp : Sys2Proof.Byte) : Statement (.stxZeroPageY zp) := ⟨rfl, show Sys2Proof.opcodeMap 0x96#8 = _ from rfl, rfl⟩
theorem stxAbsolute (addr : Sys2Proof.Word) : Statement (.stxAbsolute addr) := ⟨rfl, show Sys2Proof.opcodeMap 0x8E#8 = _ from rfl, rfl⟩
theorem styZeroPage (zp : Sys2Proof.Byte) : Statement (.styZeroPage zp) := ⟨rfl, show Sys2Proof.opcodeMap 0x84#8 = _ from rfl, rfl⟩
theorem styZeroPageX (zp : Sys2Proof.Byte) : Statement (.styZeroPageX zp) := ⟨rfl, show Sys2Proof.opcodeMap 0x94#8 = _ from rfl, rfl⟩
theorem styAbsolute (addr : Sys2Proof.Word) : Statement (.styAbsolute addr) := ⟨rfl, show Sys2Proof.opcodeMap 0x8C#8 = _ from rfl, rfl⟩
theorem tax : Statement .tax := ⟨rfl, show Sys2Proof.opcodeMap 0xAA#8 = _ from rfl, rfl⟩
theorem txa : Statement .txa := ⟨rfl, show Sys2Proof.opcodeMap 0x8A#8 = _ from rfl, rfl⟩
theorem tay : Statement .tay := ⟨rfl, show Sys2Proof.opcodeMap 0xA8#8 = _ from rfl, rfl⟩
theorem tya : Statement .tya := ⟨rfl, show Sys2Proof.opcodeMap 0x98#8 = _ from rfl, rfl⟩
theorem tsx : Statement .tsx := ⟨rfl, show Sys2Proof.opcodeMap 0xBA#8 = _ from rfl, rfl⟩
theorem txs : Statement .txs := ⟨rfl, show Sys2Proof.opcodeMap 0x9A#8 = _ from rfl, rfl⟩
theorem inx : Statement .inx := ⟨rfl, show Sys2Proof.opcodeMap 0xE8#8 = _ from rfl, rfl⟩
theorem iny : Statement .iny := ⟨rfl, show Sys2Proof.opcodeMap 0xC8#8 = _ from rfl, rfl⟩
theorem dex : Statement .dex := ⟨rfl, show Sys2Proof.opcodeMap 0xCA#8 = _ from rfl, rfl⟩
theorem dey : Statement .dey := ⟨rfl, show Sys2Proof.opcodeMap 0x88#8 = _ from rfl, rfl⟩
theorem incZeroPage (zp : Sys2Proof.Byte) : Statement (.incZeroPage zp) := ⟨rfl, show Sys2Proof.opcodeMap 0xE6#8 = _ from rfl, rfl⟩
theorem incZeroPageX (zp : Sys2Proof.Byte) : Statement (.incZeroPageX zp) := ⟨rfl, show Sys2Proof.opcodeMap 0xF6#8 = _ from rfl, rfl⟩
theorem incAbsolute (addr : Sys2Proof.Word) : Statement (.incAbsolute addr) := ⟨rfl, show Sys2Proof.opcodeMap 0xEE#8 = _ from rfl, rfl⟩
theorem incAbsoluteX (addr : Sys2Proof.Word) : Statement (.incAbsoluteX addr) := ⟨rfl, show Sys2Proof.opcodeMap 0xFE#8 = _ from rfl, rfl⟩
theorem decZeroPage (zp : Sys2Proof.Byte) : Statement (.decZeroPage zp) := ⟨rfl, show Sys2Proof.opcodeMap 0xC6#8 = _ from rfl, rfl⟩
theorem decZeroPageX (zp : Sys2Proof.Byte) : Statement (.decZeroPageX zp) := ⟨rfl, show Sys2Proof.opcodeMap 0xD6#8 = _ from rfl, rfl⟩
theorem decAbsolute (addr : Sys2Proof.Word) : Statement (.decAbsolute addr) := ⟨rfl, show Sys2Proof.opcodeMap 0xCE#8 = _ from rfl, rfl⟩
theorem decAbsoluteX (addr : Sys2Proof.Word) : Statement (.decAbsoluteX addr) := ⟨rfl, show Sys2Proof.opcodeMap 0xDE#8 = _ from rfl, rfl⟩
theorem pha : Statement .pha := ⟨rfl, show Sys2Proof.opcodeMap 0x48#8 = _ from rfl, rfl⟩
theorem pla : Statement .pla := ⟨rfl, show Sys2Proof.opcodeMap 0x68#8 = _ from rfl, rfl⟩
theorem php : Statement .php := ⟨rfl, show Sys2Proof.opcodeMap 0x08#8 = _ from rfl, rfl⟩
theorem plp : Statement .plp := ⟨rfl, show Sys2Proof.opcodeMap 0x28#8 = _ from rfl, rfl⟩
theorem jmpAbsolute (addr : Sys2Proof.Word) : Statement (.jmpAbsolute addr) := ⟨rfl, show Sys2Proof.opcodeMap 0x4C#8 = _ from rfl, rfl⟩
theorem jmpIndirect (ptr : Sys2Proof.Word) : Statement (.jmpIndirect ptr) := ⟨rfl, show Sys2Proof.opcodeMap 0x6C#8 = _ from rfl, rfl⟩
theorem nop : Statement .nop := ⟨rfl, show Sys2Proof.opcodeMap 0xEA#8 = _ from rfl, rfl⟩
theorem brk : Statement .brk := ⟨rfl, show Sys2Proof.opcodeMap 0x00#8 = _ from rfl, rfl⟩
theorem jsrAbsolute (addr : Sys2Proof.Word) : Statement (.jsrAbsolute addr) := ⟨rfl, show Sys2Proof.opcodeMap 0x20#8 = _ from rfl, rfl⟩
theorem rts : Statement .rts := ⟨rfl, show Sys2Proof.opcodeMap 0x60#8 = _ from rfl, rfl⟩
theorem rti : Statement .rti := ⟨rfl, show Sys2Proof.opcodeMap 0x40#8 = _ from rfl, rfl⟩
theorem bplRelative (rel : Sys2Proof.Byte) : Statement (.bplRelative rel) := ⟨rfl, show Sys2Proof.opcodeMap 0x10#8 = _ from rfl, rfl⟩
theorem bmiRelative (rel : Sys2Proof.Byte) : Statement (.bmiRelative rel) := ⟨rfl, show Sys2Proof.opcodeMap 0x30#8 = _ from rfl, rfl⟩
theorem bvcRelative (rel : Sys2Proof.Byte) : Statement (.bvcRelative rel) := ⟨rfl, show Sys2Proof.opcodeMap 0x50#8 = _ from rfl, rfl⟩
theorem bvsRelative (rel : Sys2Proof.Byte) : Statement (.bvsRelative rel) := ⟨rfl, show Sys2Proof.opcodeMap 0x70#8 = _ from rfl, rfl⟩
theorem bccRelative (rel : Sys2Proof.Byte) : Statement (.bccRelative rel) := ⟨rfl, show Sys2Proof.opcodeMap 0x90#8 = _ from rfl, rfl⟩
theorem bcsRelative (rel : Sys2Proof.Byte) : Statement (.bcsRelative rel) := ⟨rfl, show Sys2Proof.opcodeMap 0xB0#8 = _ from rfl, rfl⟩
theorem bneRelative (rel : Sys2Proof.Byte) : Statement (.bneRelative rel) := ⟨rfl, show Sys2Proof.opcodeMap 0xD0#8 = _ from rfl, rfl⟩
theorem beqRelative (rel : Sys2Proof.Byte) : Statement (.beqRelative rel) := ⟨rfl, show Sys2Proof.opcodeMap 0xF0#8 = _ from rfl, rfl⟩
theorem adcImmediate (imm : Sys2Proof.Byte) : Statement (.adcImmediate imm) := ⟨rfl, show Sys2Proof.opcodeMap 0x69#8 = _ from rfl, rfl⟩
theorem adcZeroPage (zp : Sys2Proof.Byte) : Statement (.adcZeroPage zp) := ⟨rfl, show Sys2Proof.opcodeMap 0x65#8 = _ from rfl, rfl⟩
theorem adcZeroPageX (zp : Sys2Proof.Byte) : Statement (.adcZeroPageX zp) := ⟨rfl, show Sys2Proof.opcodeMap 0x75#8 = _ from rfl, rfl⟩
theorem adcIndexedIndirectX (zp : Sys2Proof.Byte) : Statement (.adcIndexedIndirectX zp) := ⟨rfl, show Sys2Proof.opcodeMap 0x61#8 = _ from rfl, rfl⟩
theorem adcIndirectIndexedY (zp : Sys2Proof.Byte) : Statement (.adcIndirectIndexedY zp) := ⟨rfl, show Sys2Proof.opcodeMap 0x71#8 = _ from rfl, rfl⟩
theorem adcAbsolute (addr : Sys2Proof.Word) : Statement (.adcAbsolute addr) := ⟨rfl, show Sys2Proof.opcodeMap 0x6D#8 = _ from rfl, rfl⟩
theorem adcAbsoluteX (addr : Sys2Proof.Word) : Statement (.adcAbsoluteX addr) := ⟨rfl, show Sys2Proof.opcodeMap 0x7D#8 = _ from rfl, rfl⟩
theorem adcAbsoluteY (addr : Sys2Proof.Word) : Statement (.adcAbsoluteY addr) := ⟨rfl, show Sys2Proof.opcodeMap 0x79#8 = _ from rfl, rfl⟩
theorem sbcImmediate (imm : Sys2Proof.Byte) : Statement (.sbcImmediate imm) := ⟨rfl, show Sys2Proof.opcodeMap 0xE9#8 = _ from rfl, rfl⟩
theorem sbcZeroPage (zp : Sys2Proof.Byte) : Statement (.sbcZeroPage zp) := ⟨rfl, show Sys2Proof.opcodeMap 0xE5#8 = _ from rfl, rfl⟩
theorem sbcZeroPageX (zp : Sys2Proof.Byte) : Statement (.sbcZeroPageX zp) := ⟨rfl, show Sys2Proof.opcodeMap 0xF5#8 = _ from rfl, rfl⟩
theorem sbcIndexedIndirectX (zp : Sys2Proof.Byte) : Statement (.sbcIndexedIndirectX zp) := ⟨rfl, show Sys2Proof.opcodeMap 0xE1#8 = _ from rfl, rfl⟩
theorem sbcIndirectIndexedY (zp : Sys2Proof.Byte) : Statement (.sbcIndirectIndexedY zp) := ⟨rfl, show Sys2Proof.opcodeMap 0xF1#8 = _ from rfl, rfl⟩
theorem sbcAbsolute (addr : Sys2Proof.Word) : Statement (.sbcAbsolute addr) := ⟨rfl, show Sys2Proof.opcodeMap 0xED#8 = _ from rfl, rfl⟩
theorem sbcAbsoluteX (addr : Sys2Proof.Word) : Statement (.sbcAbsoluteX addr) := ⟨rfl, show Sys2Proof.opcodeMap 0xFD#8 = _ from rfl, rfl⟩
theorem sbcAbsoluteY (addr : Sys2Proof.Word) : Statement (.sbcAbsoluteY addr) := ⟨rfl, show Sys2Proof.opcodeMap 0xF9#8 = _ from rfl, rfl⟩
theorem andImmediate (imm : Sys2Proof.Byte) : Statement (.andImmediate imm) := ⟨rfl, show Sys2Proof.opcodeMap 0x29#8 = _ from rfl, rfl⟩
theorem andZeroPage (zp : Sys2Proof.Byte) : Statement (.andZeroPage zp) := ⟨rfl, show Sys2Proof.opcodeMap 0x25#8 = _ from rfl, rfl⟩
theorem andZeroPageX (zp : Sys2Proof.Byte) : Statement (.andZeroPageX zp) := ⟨rfl, show Sys2Proof.opcodeMap 0x35#8 = _ from rfl, rfl⟩
theorem andIndexedIndirectX (zp : Sys2Proof.Byte) : Statement (.andIndexedIndirectX zp) := ⟨rfl, show Sys2Proof.opcodeMap 0x21#8 = _ from rfl, rfl⟩
theorem andIndirectIndexedY (zp : Sys2Proof.Byte) : Statement (.andIndirectIndexedY zp) := ⟨rfl, show Sys2Proof.opcodeMap 0x31#8 = _ from rfl, rfl⟩
theorem andAbsolute (addr : Sys2Proof.Word) : Statement (.andAbsolute addr) := ⟨rfl, show Sys2Proof.opcodeMap 0x2D#8 = _ from rfl, rfl⟩
theorem andAbsoluteX (addr : Sys2Proof.Word) : Statement (.andAbsoluteX addr) := ⟨rfl, show Sys2Proof.opcodeMap 0x3D#8 = _ from rfl, rfl⟩
theorem andAbsoluteY (addr : Sys2Proof.Word) : Statement (.andAbsoluteY addr) := ⟨rfl, show Sys2Proof.opcodeMap 0x39#8 = _ from rfl, rfl⟩
theorem oraImmediate (imm : Sys2Proof.Byte) : Statement (.oraImmediate imm) := ⟨rfl, show Sys2Proof.opcodeMap 0x09#8 = _ from rfl, rfl⟩
theorem oraZeroPage (zp : Sys2Proof.Byte) : Statement (.oraZeroPage zp) := ⟨rfl, show Sys2Proof.opcodeMap 0x05#8 = _ from rfl, rfl⟩
theorem oraZeroPageX (zp : Sys2Proof.Byte) : Statement (.oraZeroPageX zp) := ⟨rfl, show Sys2Proof.opcodeMap 0x15#8 = _ from rfl, rfl⟩
theorem oraIndexedIndirectX (zp : Sys2Proof.Byte) : Statement (.oraIndexedIndirectX zp) := ⟨rfl, show Sys2Proof.opcodeMap 0x01#8 = _ from rfl, rfl⟩
theorem oraIndirectIndexedY (zp : Sys2Proof.Byte) : Statement (.oraIndirectIndexedY zp) := ⟨rfl, show Sys2Proof.opcodeMap 0x11#8 = _ from rfl, rfl⟩
theorem oraAbsolute (addr : Sys2Proof.Word) : Statement (.oraAbsolute addr) := ⟨rfl, show Sys2Proof.opcodeMap 0x0D#8 = _ from rfl, rfl⟩
theorem oraAbsoluteX (addr : Sys2Proof.Word) : Statement (.oraAbsoluteX addr) := ⟨rfl, show Sys2Proof.opcodeMap 0x1D#8 = _ from rfl, rfl⟩
theorem oraAbsoluteY (addr : Sys2Proof.Word) : Statement (.oraAbsoluteY addr) := ⟨rfl, show Sys2Proof.opcodeMap 0x19#8 = _ from rfl, rfl⟩
theorem eorImmediate (imm : Sys2Proof.Byte) : Statement (.eorImmediate imm) := ⟨rfl, show Sys2Proof.opcodeMap 0x49#8 = _ from rfl, rfl⟩
theorem eorZeroPage (zp : Sys2Proof.Byte) : Statement (.eorZeroPage zp) := ⟨rfl, show Sys2Proof.opcodeMap 0x45#8 = _ from rfl, rfl⟩
theorem eorZeroPageX (zp : Sys2Proof.Byte) : Statement (.eorZeroPageX zp) := ⟨rfl, show Sys2Proof.opcodeMap 0x55#8 = _ from rfl, rfl⟩
theorem eorIndexedIndirectX (zp : Sys2Proof.Byte) : Statement (.eorIndexedIndirectX zp) := ⟨rfl, show Sys2Proof.opcodeMap 0x41#8 = _ from rfl, rfl⟩
theorem eorIndirectIndexedY (zp : Sys2Proof.Byte) : Statement (.eorIndirectIndexedY zp) := ⟨rfl, show Sys2Proof.opcodeMap 0x51#8 = _ from rfl, rfl⟩
theorem eorAbsolute (addr : Sys2Proof.Word) : Statement (.eorAbsolute addr) := ⟨rfl, show Sys2Proof.opcodeMap 0x4D#8 = _ from rfl, rfl⟩
theorem eorAbsoluteX (addr : Sys2Proof.Word) : Statement (.eorAbsoluteX addr) := ⟨rfl, show Sys2Proof.opcodeMap 0x5D#8 = _ from rfl, rfl⟩
theorem eorAbsoluteY (addr : Sys2Proof.Word) : Statement (.eorAbsoluteY addr) := ⟨rfl, show Sys2Proof.opcodeMap 0x59#8 = _ from rfl, rfl⟩
theorem cmpImmediate (imm : Sys2Proof.Byte) : Statement (.cmpImmediate imm) := ⟨rfl, show Sys2Proof.opcodeMap 0xC9#8 = _ from rfl, rfl⟩
theorem cmpZeroPage (zp : Sys2Proof.Byte) : Statement (.cmpZeroPage zp) := ⟨rfl, show Sys2Proof.opcodeMap 0xC5#8 = _ from rfl, rfl⟩
theorem cmpZeroPageX (zp : Sys2Proof.Byte) : Statement (.cmpZeroPageX zp) := ⟨rfl, show Sys2Proof.opcodeMap 0xD5#8 = _ from rfl, rfl⟩
theorem cmpIndexedIndirectX (zp : Sys2Proof.Byte) : Statement (.cmpIndexedIndirectX zp) := ⟨rfl, show Sys2Proof.opcodeMap 0xC1#8 = _ from rfl, rfl⟩
theorem cmpIndirectIndexedY (zp : Sys2Proof.Byte) : Statement (.cmpIndirectIndexedY zp) := ⟨rfl, show Sys2Proof.opcodeMap 0xD1#8 = _ from rfl, rfl⟩
theorem cmpAbsolute (addr : Sys2Proof.Word) : Statement (.cmpAbsolute addr) := ⟨rfl, show Sys2Proof.opcodeMap 0xCD#8 = _ from rfl, rfl⟩
theorem cmpAbsoluteX (addr : Sys2Proof.Word) : Statement (.cmpAbsoluteX addr) := ⟨rfl, show Sys2Proof.opcodeMap 0xDD#8 = _ from rfl, rfl⟩
theorem cmpAbsoluteY (addr : Sys2Proof.Word) : Statement (.cmpAbsoluteY addr) := ⟨rfl, show Sys2Proof.opcodeMap 0xD9#8 = _ from rfl, rfl⟩
theorem cpxImmediate (imm : Sys2Proof.Byte) : Statement (.cpxImmediate imm) := ⟨rfl, show Sys2Proof.opcodeMap 0xE0#8 = _ from rfl, rfl⟩
theorem cpxZeroPage (zp : Sys2Proof.Byte) : Statement (.cpxZeroPage zp) := ⟨rfl, show Sys2Proof.opcodeMap 0xE4#8 = _ from rfl, rfl⟩
theorem cpxAbsolute (addr : Sys2Proof.Word) : Statement (.cpxAbsolute addr) := ⟨rfl, show Sys2Proof.opcodeMap 0xEC#8 = _ from rfl, rfl⟩
theorem cpyImmediate (imm : Sys2Proof.Byte) : Statement (.cpyImmediate imm) := ⟨rfl, show Sys2Proof.opcodeMap 0xC0#8 = _ from rfl, rfl⟩
theorem cpyZeroPage (zp : Sys2Proof.Byte) : Statement (.cpyZeroPage zp) := ⟨rfl, show Sys2Proof.opcodeMap 0xC4#8 = _ from rfl, rfl⟩
theorem cpyAbsolute (addr : Sys2Proof.Word) : Statement (.cpyAbsolute addr) := ⟨rfl, show Sys2Proof.opcodeMap 0xCC#8 = _ from rfl, rfl⟩
theorem bitZeroPage (zp : Sys2Proof.Byte) : Statement (.bitZeroPage zp) := ⟨rfl, show Sys2Proof.opcodeMap 0x24#8 = _ from rfl, rfl⟩
theorem bitAbsolute (addr : Sys2Proof.Word) : Statement (.bitAbsolute addr) := ⟨rfl, show Sys2Proof.opcodeMap 0x2C#8 = _ from rfl, rfl⟩
theorem aslAccumulator : Statement .aslAccumulator := ⟨rfl, show Sys2Proof.opcodeMap 0x0A#8 = _ from rfl, rfl⟩
theorem aslZeroPage (zp : Sys2Proof.Byte) : Statement (.aslZeroPage zp) := ⟨rfl, show Sys2Proof.opcodeMap 0x06#8 = _ from rfl, rfl⟩
theorem aslZeroPageX (zp : Sys2Proof.Byte) : Statement (.aslZeroPageX zp) := ⟨rfl, show Sys2Proof.opcodeMap 0x16#8 = _ from rfl, rfl⟩
theorem aslAbsolute (addr : Sys2Proof.Word) : Statement (.aslAbsolute addr) := ⟨rfl, show Sys2Proof.opcodeMap 0x0E#8 = _ from rfl, rfl⟩
theorem aslAbsoluteX (addr : Sys2Proof.Word) : Statement (.aslAbsoluteX addr) := ⟨rfl, show Sys2Proof.opcodeMap 0x1E#8 = _ from rfl, rfl⟩
theorem lsrAccumulator : Statement .lsrAccumulator := ⟨rfl, show Sys2Proof.opcodeMap 0x4A#8 = _ from rfl, rfl⟩
theorem lsrZeroPage (zp : Sys2Proof.Byte) : Statement (.lsrZeroPage zp) := ⟨rfl, show Sys2Proof.opcodeMap 0x46#8 = _ from rfl, rfl⟩
theorem lsrZeroPageX (zp : Sys2Proof.Byte) : Statement (.lsrZeroPageX zp) := ⟨rfl, show Sys2Proof.opcodeMap 0x56#8 = _ from rfl, rfl⟩
theorem lsrAbsolute (addr : Sys2Proof.Word) : Statement (.lsrAbsolute addr) := ⟨rfl, show Sys2Proof.opcodeMap 0x4E#8 = _ from rfl, rfl⟩
theorem lsrAbsoluteX (addr : Sys2Proof.Word) : Statement (.lsrAbsoluteX addr) := ⟨rfl, show Sys2Proof.opcodeMap 0x5E#8 = _ from rfl, rfl⟩
theorem rolAccumulator : Statement .rolAccumulator := ⟨rfl, show Sys2Proof.opcodeMap 0x2A#8 = _ from rfl, rfl⟩
theorem rolZeroPage (zp : Sys2Proof.Byte) : Statement (.rolZeroPage zp) := ⟨rfl, show Sys2Proof.opcodeMap 0x26#8 = _ from rfl, rfl⟩
theorem rolZeroPageX (zp : Sys2Proof.Byte) : Statement (.rolZeroPageX zp) := ⟨rfl, show Sys2Proof.opcodeMap 0x36#8 = _ from rfl, rfl⟩
theorem rolAbsolute (addr : Sys2Proof.Word) : Statement (.rolAbsolute addr) := ⟨rfl, show Sys2Proof.opcodeMap 0x2E#8 = _ from rfl, rfl⟩
theorem rolAbsoluteX (addr : Sys2Proof.Word) : Statement (.rolAbsoluteX addr) := ⟨rfl, show Sys2Proof.opcodeMap 0x3E#8 = _ from rfl, rfl⟩
theorem rorAccumulator : Statement .rorAccumulator := ⟨rfl, show Sys2Proof.opcodeMap 0x6A#8 = _ from rfl, rfl⟩
theorem rorZeroPage (zp : Sys2Proof.Byte) : Statement (.rorZeroPage zp) := ⟨rfl, show Sys2Proof.opcodeMap 0x66#8 = _ from rfl, rfl⟩
theorem rorZeroPageX (zp : Sys2Proof.Byte) : Statement (.rorZeroPageX zp) := ⟨rfl, show Sys2Proof.opcodeMap 0x76#8 = _ from rfl, rfl⟩
theorem rorAbsolute (addr : Sys2Proof.Word) : Statement (.rorAbsolute addr) := ⟨rfl, show Sys2Proof.opcodeMap 0x6E#8 = _ from rfl, rfl⟩
theorem rorAbsoluteX (addr : Sys2Proof.Word) : Statement (.rorAbsoluteX addr) := ⟨rfl, show Sys2Proof.opcodeMap 0x7E#8 = _ from rfl, rfl⟩
theorem clc : Statement .clc := ⟨rfl, show Sys2Proof.opcodeMap 0x18#8 = _ from rfl, rfl⟩
theorem sec : Statement .sec := ⟨rfl, show Sys2Proof.opcodeMap 0x38#8 = _ from rfl, rfl⟩
theorem cli : Statement .cli := ⟨rfl, show Sys2Proof.opcodeMap 0x58#8 = _ from rfl, rfl⟩
theorem sei : Statement .sei := ⟨rfl, show Sys2Proof.opcodeMap 0x78#8 = _ from rfl, rfl⟩
theorem cld : Statement .cld := ⟨rfl, show Sys2Proof.opcodeMap 0xD8#8 = _ from rfl, rfl⟩
theorem sed : Statement .sed := ⟨rfl, show Sys2Proof.opcodeMap 0xF8#8 = _ from rfl, rfl⟩
theorem clv : Statement .clv := ⟨rfl, show Sys2Proof.opcodeMap 0xB8#8 = _ from rfl, rfl⟩

end Sys2Proof.Laws.Encoding
end

