-- ==== Sys2Proof/Tests/Slice0.lean ====
section
/-! SUPPORT. The model's own tests: the well-formedness check, decoding of words written out from spec/30_encoding.md R84, one-step
vectors from spec/95_test_vectors.md, and for every obligation with hypotheses a state and operands that meet them. The
expected values are the spec's own. -/

namespace Sys2Proof.Tests

open Sys2Proof Sys2Proof.Machine Sys2Proof.Safety

/-! ### Well-formedness: what the opcode map pairs, and what it does not (R85, R103) -/

/-- R143: there is no Immediate form of STA (0x89 is illegal). -/
theorem test_sta_immediate_is_ill_formed : Pairing.wellFormed ⟨.sta, .immediate⟩ = false := by decide
/-- R106: only the four shifts have the Accumulator mode. -/
theorem test_lda_accumulator_is_ill_formed : Pairing.wellFormed ⟨.lda, .accumulator⟩ = false := by decide
/-- R114: Indirect is used only by JMP. -/
theorem test_jsr_indirect_is_ill_formed : Pairing.wellFormed ⟨.jsr, .indirect⟩ = false := by decide
/-- R144: there is no AbsoluteY form of STX. -/
theorem test_stx_absoluteY_is_ill_formed : Pairing.wellFormed ⟨.stx, .absoluteY⟩ = false := by decide
/-- R109: ZeroPageY is used only by LDX and STX. -/
theorem test_lda_zeroPageY_is_ill_formed : Pairing.wellFormed ⟨.lda, .zeroPageY⟩ = false := by decide
/-- R109: LDX has the ZeroPageY form. -/
theorem test_ldx_zeroPageY_is_well_formed : Pairing.wellFormed ⟨.ldx, .zeroPageY⟩ = true := by decide
/-- R86: 0x02 has no entry, so the decoder refuses it by name. -/
theorem test_decode_refuses_illegal_byte : decode [0x02#8, 0x12#8, 0x34#8] = .error (.illegalOpcode 0x02#8) := by rfl
/-- A list that ends inside an instruction is no instruction. -/
theorem test_decode_refuses_truncated_list : decode [0xAD#8, 0x12#8] = .error .truncated := by rfl

/-! ### Decoding: the rows of the opcode map (R84)

The word's lowest byte is the opcode, the next ones the operand bytes in address order; a 3-byte operand has its high byte
first (R82), so operand bytes 0x12, 0x34 are the operand 0x1234. -/

theorem test_decode_row_0 :
    decodeTableWord 8 0x00 = some .brk ∧ decodeTableWord 16 0x4401 = some (.oraIndexedIndirectX 0x44#8) ∧
    decodeTableWord 16 0x4405 = some (.oraZeroPage 0x44#8) ∧ decodeTableWord 16 0x4406 = some (.aslZeroPage 0x44#8) ∧
    decodeTableWord 8 0x08 = some .php ∧ decodeTableWord 16 0x4409 = some (.oraImmediate 0x44#8) ∧
    decodeTableWord 8 0x0A = some .aslAccumulator ∧ decodeTableWord 24 0x34120D = some (.oraAbsolute 0x1234#16) ∧
    decodeTableWord 24 0x34120E = some (.aslAbsolute 0x1234#16) := by decide

theorem test_decode_row_1 :
    decodeTableWord 16 0x4410 = some (.bplRelative 0x44#8) ∧
    decodeTableWord 16 0x4411 = some (.oraIndirectIndexedY 0x44#8) ∧
    decodeTableWord 16 0x4415 = some (.oraZeroPageX 0x44#8) ∧
    decodeTableWord 16 0x4416 = some (.aslZeroPageX 0x44#8) ∧ decodeTableWord 8 0x18 = some .clc ∧
    decodeTableWord 24 0x341219 = some (.oraAbsoluteY 0x1234#16) ∧
    decodeTableWord 24 0x34121D = some (.oraAbsoluteX 0x1234#16) ∧
    decodeTableWord 24 0x34121E = some (.aslAbsoluteX 0x1234#16) := by decide

theorem test_decode_row_2 :
    decodeTableWord 24 0x341220 = some (.jsrAbsolute 0x1234#16) ∧
    decodeTableWord 16 0x4421 = some (.andIndexedIndirectX 0x44#8) ∧
    decodeTableWord 16 0x4424 = some (.bitZeroPage 0x44#8) ∧ decodeTableWord 16 0x4425 = some (.andZeroPage 0x44#8) ∧
    decodeTableWord 16 0x4426 = some (.rolZeroPage 0x44#8) ∧ decodeTableWord 8 0x28 = some .plp ∧
    decodeTableWord 16 0x4429 = some (.andImmediate 0x44#8) ∧ decodeTableWord 8 0x2A = some .rolAccumulator ∧
    decodeTableWord 24 0x34122C = some (.bitAbsolute 0x1234#16) ∧
    decodeTableWord 24 0x34122D = some (.andAbsolute 0x1234#16) ∧
    decodeTableWord 24 0x34122E = some (.rolAbsolute 0x1234#16) := by decide

theorem test_decode_row_3 :
    decodeTableWord 16 0x4430 = some (.bmiRelative 0x44#8) ∧
    decodeTableWord 16 0x4431 = some (.andIndirectIndexedY 0x44#8) ∧
    decodeTableWord 16 0x4435 = some (.andZeroPageX 0x44#8) ∧
    decodeTableWord 16 0x4436 = some (.rolZeroPageX 0x44#8) ∧ decodeTableWord 8 0x38 = some .sec ∧
    decodeTableWord 24 0x341239 = some (.andAbsoluteY 0x1234#16) ∧
    decodeTableWord 24 0x34123D = some (.andAbsoluteX 0x1234#16) ∧
    decodeTableWord 24 0x34123E = some (.rolAbsoluteX 0x1234#16) := by decide

theorem test_decode_row_4 :
    decodeTableWord 8 0x40 = some .rti ∧ decodeTableWord 16 0x4441 = some (.eorIndexedIndirectX 0x44#8) ∧
    decodeTableWord 16 0x4445 = some (.eorZeroPage 0x44#8) ∧ decodeTableWord 16 0x4446 = some (.lsrZeroPage 0x44#8) ∧
    decodeTableWord 8 0x48 = some .pha ∧ decodeTableWord 16 0x4449 = some (.eorImmediate 0x44#8) ∧
    decodeTableWord 8 0x4A = some .lsrAccumulator ∧ decodeTableWord 24 0x34124C = some (.jmpAbsolute 0x1234#16) ∧
    decodeTableWord 24 0x34124D = some (.eorAbsolute 0x1234#16) ∧
    decodeTableWord 24 0x34124E = some (.lsrAbsolute 0x1234#16) := by decide

theorem test_decode_row_5 :
    decodeTableWord 16 0x4450 = some (.bvcRelative 0x44#8) ∧
    decodeTableWord 16 0x4451 = some (.eorIndirectIndexedY 0x44#8) ∧
    decodeTableWord 16 0x4455 = some (.eorZeroPageX 0x44#8) ∧
    decodeTableWord 16 0x4456 = some (.lsrZeroPageX 0x44#8) ∧ decodeTableWord 8 0x58 = some .cli ∧
    decodeTableWord 24 0x341259 = some (.eorAbsoluteY 0x1234#16) ∧
    decodeTableWord 24 0x34125D = some (.eorAbsoluteX 0x1234#16) ∧
    decodeTableWord 24 0x34125E = some (.lsrAbsoluteX 0x1234#16) := by decide

theorem test_decode_row_6 :
    decodeTableWord 8 0x60 = some .rts ∧ decodeTableWord 16 0x4461 = some (.adcIndexedIndirectX 0x44#8) ∧
    decodeTableWord 16 0x4465 = some (.adcZeroPage 0x44#8) ∧ decodeTableWord 16 0x4466 = some (.rorZeroPage 0x44#8) ∧
    decodeTableWord 8 0x68 = some .pla ∧ decodeTableWord 16 0x4469 = some (.adcImmediate 0x44#8) ∧
    decodeTableWord 8 0x6A = some .rorAccumulator ∧ decodeTableWord 24 0x34126C = some (.jmpIndirect 0x1234#16) ∧
    decodeTableWord 24 0x34126D = some (.adcAbsolute 0x1234#16) ∧
    decodeTableWord 24 0x34126E = some (.rorAbsolute 0x1234#16) := by decide

theorem test_decode_row_7 :
    decodeTableWord 16 0x4470 = some (.bvsRelative 0x44#8) ∧
    decodeTableWord 16 0x4471 = some (.adcIndirectIndexedY 0x44#8) ∧
    decodeTableWord 16 0x4475 = some (.adcZeroPageX 0x44#8) ∧
    decodeTableWord 16 0x4476 = some (.rorZeroPageX 0x44#8) ∧ decodeTableWord 8 0x78 = some .sei ∧
    decodeTableWord 24 0x341279 = some (.adcAbsoluteY 0x1234#16) ∧
    decodeTableWord 24 0x34127D = some (.adcAbsoluteX 0x1234#16) ∧
    decodeTableWord 24 0x34127E = some (.rorAbsoluteX 0x1234#16) := by decide

theorem test_decode_row_8 :
    decodeTableWord 16 0x4481 = some (.staIndexedIndirectX 0x44#8) ∧
    decodeTableWord 16 0x4484 = some (.styZeroPage 0x44#8) ∧ decodeTableWord 16 0x4485 = some (.staZeroPage 0x44#8) ∧
    decodeTableWord 16 0x4486 = some (.stxZeroPage 0x44#8) ∧ decodeTableWord 8 0x88 = some .dey ∧
    decodeTableWord 8 0x8A = some .txa ∧ decodeTableWord 24 0x34128C = some (.styAbsolute 0x1234#16) ∧
    decodeTableWord 24 0x34128D = some (.staAbsolute 0x1234#16) ∧
    decodeTableWord 24 0x34128E = some (.stxAbsolute 0x1234#16) := by decide

theorem test_decode_row_9 :
    decodeTableWord 16 0x4490 = some (.bccRelative 0x44#8) ∧
    decodeTableWord 16 0x4491 = some (.staIndirectIndexedY 0x44#8) ∧
    decodeTableWord 16 0x4494 = some (.styZeroPageX 0x44#8) ∧
    decodeTableWord 16 0x4495 = some (.staZeroPageX 0x44#8) ∧
    decodeTableWord 16 0x4496 = some (.stxZeroPageY 0x44#8) ∧ decodeTableWord 8 0x98 = some .tya ∧
    decodeTableWord 24 0x341299 = some (.staAbsoluteY 0x1234#16) ∧ decodeTableWord 8 0x9A = some .txs ∧
    decodeTableWord 24 0x34129D = some (.staAbsoluteX 0x1234#16) := by decide

theorem test_decode_row_A :
    decodeTableWord 16 0x44A0 = some (.ldyImmediate 0x44#8) ∧
    decodeTableWord 16 0x44A1 = some (.ldaIndexedIndirectX 0x44#8) ∧
    decodeTableWord 16 0x44A2 = some (.ldxImmediate 0x44#8) ∧
    decodeTableWord 16 0x44A4 = some (.ldyZeroPage 0x44#8) ∧ decodeTableWord 16 0x44A5 = some (.ldaZeroPage 0x44#8) ∧
    decodeTableWord 16 0x44A6 = some (.ldxZeroPage 0x44#8) ∧ decodeTableWord 8 0xA8 = some .tay ∧
    decodeTableWord 16 0x44A9 = some (.ldaImmediate 0x44#8) ∧ decodeTableWord 8 0xAA = some .tax ∧
    decodeTableWord 24 0x3412AC = some (.ldyAbsolute 0x1234#16) ∧
    decodeTableWord 24 0x3412AD = some (.ldaAbsolute 0x1234#16) ∧
    decodeTableWord 24 0x3412AE = some (.ldxAbsolute 0x1234#16) := by decide

theorem test_decode_row_B :
    decodeTableWord 16 0x44B0 = some (.bcsRelative 0x44#8) ∧
    decodeTableWord 16 0x44B1 = some (.ldaIndirectIndexedY 0x44#8) ∧
    decodeTableWord 16 0x44B4 = some (.ldyZeroPageX 0x44#8) ∧
    decodeTableWord 16 0x44B5 = some (.ldaZeroPageX 0x44#8) ∧
    decodeTableWord 16 0x44B6 = some (.ldxZeroPageY 0x44#8) ∧ decodeTableWord 8 0xB8 = some .clv ∧
    decodeTableWord 24 0x3412B9 = some (.ldaAbsoluteY 0x1234#16) ∧ decodeTableWord 8 0xBA = some .tsx ∧
    decodeTableWord 24 0x3412BC = some (.ldyAbsoluteX 0x1234#16) ∧
    decodeTableWord 24 0x3412BD = some (.ldaAbsoluteX 0x1234#16) ∧
    decodeTableWord 24 0x3412BE = some (.ldxAbsoluteY 0x1234#16) := by decide

theorem test_decode_row_C :
    decodeTableWord 16 0x44C0 = some (.cpyImmediate 0x44#8) ∧
    decodeTableWord 16 0x44C1 = some (.cmpIndexedIndirectX 0x44#8) ∧
    decodeTableWord 16 0x44C4 = some (.cpyZeroPage 0x44#8) ∧ decodeTableWord 16 0x44C5 = some (.cmpZeroPage 0x44#8) ∧
    decodeTableWord 16 0x44C6 = some (.decZeroPage 0x44#8) ∧ decodeTableWord 8 0xC8 = some .iny ∧
    decodeTableWord 16 0x44C9 = some (.cmpImmediate 0x44#8) ∧ decodeTableWord 8 0xCA = some .dex ∧
    decodeTableWord 24 0x3412CC = some (.cpyAbsolute 0x1234#16) ∧
    decodeTableWord 24 0x3412CD = some (.cmpAbsolute 0x1234#16) ∧
    decodeTableWord 24 0x3412CE = some (.decAbsolute 0x1234#16) := by decide

theorem test_decode_row_D :
    decodeTableWord 16 0x44D0 = some (.bneRelative 0x44#8) ∧
    decodeTableWord 16 0x44D1 = some (.cmpIndirectIndexedY 0x44#8) ∧
    decodeTableWord 16 0x44D5 = some (.cmpZeroPageX 0x44#8) ∧
    decodeTableWord 16 0x44D6 = some (.decZeroPageX 0x44#8) ∧ decodeTableWord 8 0xD8 = some .cld ∧
    decodeTableWord 24 0x3412D9 = some (.cmpAbsoluteY 0x1234#16) ∧
    decodeTableWord 24 0x3412DD = some (.cmpAbsoluteX 0x1234#16) ∧
    decodeTableWord 24 0x3412DE = some (.decAbsoluteX 0x1234#16) := by decide

theorem test_decode_row_E :
    decodeTableWord 16 0x44E0 = some (.cpxImmediate 0x44#8) ∧
    decodeTableWord 16 0x44E1 = some (.sbcIndexedIndirectX 0x44#8) ∧
    decodeTableWord 16 0x44E4 = some (.cpxZeroPage 0x44#8) ∧ decodeTableWord 16 0x44E5 = some (.sbcZeroPage 0x44#8) ∧
    decodeTableWord 16 0x44E6 = some (.incZeroPage 0x44#8) ∧ decodeTableWord 8 0xE8 = some .inx ∧
    decodeTableWord 16 0x44E9 = some (.sbcImmediate 0x44#8) ∧ decodeTableWord 8 0xEA = some .nop ∧
    decodeTableWord 24 0x3412EC = some (.cpxAbsolute 0x1234#16) ∧
    decodeTableWord 24 0x3412ED = some (.sbcAbsolute 0x1234#16) ∧
    decodeTableWord 24 0x3412EE = some (.incAbsolute 0x1234#16) := by decide

theorem test_decode_row_F :
    decodeTableWord 16 0x44F0 = some (.beqRelative 0x44#8) ∧
    decodeTableWord 16 0x44F1 = some (.sbcIndirectIndexedY 0x44#8) ∧
    decodeTableWord 16 0x44F5 = some (.sbcZeroPageX 0x44#8) ∧
    decodeTableWord 16 0x44F6 = some (.incZeroPageX 0x44#8) ∧ decodeTableWord 8 0xF8 = some .sed ∧
    decodeTableWord 24 0x3412F9 = some (.sbcAbsoluteY 0x1234#16) ∧
    decodeTableWord 24 0x3412FD = some (.sbcAbsoluteX 0x1234#16) ∧
    decodeTableWord 24 0x3412FE = some (.incAbsoluteX 0x1234#16) := by decide

/-- A table word of 8 bits has operand bytes of zeros. -/
theorem test_decode_short_word : decodeTableWord 8 0x4C = some (.jmpAbsolute 0x0000#16) := by decide
/-- The fetched operand bytes of an illegal byte are ignored (R86). -/
theorem test_decode_illegal_word : decodeTableWord 24 0x3412FF = none := by decide
/-- R82: the encoder's operand bytes have the high byte first. -/
theorem test_encode_jmp : encode (.jmpAbsolute 0xAA55#16) = [0x4C#8, 0xAA#8, 0x55#8] := by decide
/-- R114: JMP Indirect is 0x6C, and its pointer is assembled like an Absolute operand. -/
theorem test_encode_jmp_indirect : encode (.jmpIndirect 0x12FF#16) = [0x6C#8, 0x12#8, 0xFF#8] := by decide

/-! ### One step from a small state (spec/95_test_vectors.md) -/

/-- The state of a vector: cells, then the instruction's bytes at PC. -/
def placed (st : State) (cells : List (Nat × Nat)) (bytes : List Nat) : State :=
  (cells.foldl (fun s c => s.write (BitVec.ofNat 16 c.1) (BitVec.ofNat 8 c.2)) st).writeRun st.pc.toNat
    (bytes.map (BitVec.ofNat 8))

/-- The next state of a step, if it completes. -/
def ran (st : State) : Option State :=
  match step st with
  | .next t => some t
  | _ => none

/-- The fault of a step, if it faults. -/
def faulted (st : State) : Option Fault :=
  match step st with
  | .fault f => some f
  | _ => none

/-- The reset state with PC at 0x0200, where most vectors place their instruction. -/
def at0200 : State := { State.reset with pc := 0x0200#16 }

/-- V1: ZeroPage. -/
theorem test_ldaZeroPage_v1 :
    (ran (placed at0200 [(0x0010, 0x77)] [0xA5, 0x10])).map (fun t => (t.a, t.pc)) =
      some (0x77#8, 0x0202#16) := by decide
/-- V2: ZeroPageX wraps in page 0. -/
theorem test_ldaZeroPageX_v2 :
    (ran (placed { at0200 with x := 0x20#8 } [(0x0010, 0x11), (0x0110, 0x22)] [0xB5, 0xF0])).map
      (fun t => (t.a, t.pc)) =
      some (0x11#8, 0x0202#16) := by decide
/-- V3: prototype: no page-0 wrap. -/
theorem test_ldaZeroPageX_v3 :
    (ran (placed { at0200 with x := 0x20#8, cfg := { Config.default with zpIndexedWrap := false } }
        [(0x0010, 0x11), (0x0110, 0x22)] [0xB5, 0xF0])).map
      (fun t => (t.a, t.pc)) =
      some (0x22#8, 0x0202#16) := by decide
/-- V4: ZeroPageY (LDX). -/
theorem test_ldxZeroPageY_v4 :
    (ran (placed { at0200 with y := 0x20#8 } [(0x0010, 0x11), (0x0110, 0x22)] [0xB6, 0xF0])).map
      (fun t => (t.x, t.pc)) =
      some (0x11#8, 0x0202#16) := by decide
/-- V5: Absolute, high byte first. -/
theorem test_ldaAbsolute_v5 :
    (ran (placed at0200 [(0x1234, 0x99)] [0xAD, 0x12, 0x34])).map (fun t => (t.a, t.flagN)) =
      some (0x99#8, true) := by decide
/-- V6: AbsoluteX: 0x12F0 + 0x20 crosses a page. -/
theorem test_ldaAbsoluteX_v6 :
    (ran (placed { at0200 with x := 0x20#8 } [(0x1310, 0x05)] [0xBD, 0x12, 0xF0])).map (fun t => (t.a, t.pc)) =
      some (0x05#8, 0x0203#16) := by decide
/-- V7: AbsoluteX: 0xFFF0 + 0x20 wraps to 0x0010. -/
theorem test_ldaAbsoluteX_v7 :
    (ran (placed { at0200 with x := 0x20#8 } [(0x0010, 0x06)] [0xBD, 0xFF, 0xF0])).map (fun t => (t.a, t.pc)) =
      some (0x06#8, 0x0203#16) := by decide
/-- V8: AbsoluteY: 0xFF00 + 1. -/
theorem test_ldaAbsoluteY_v8 :
    (ran (placed { at0200 with y := 0x01#8 } [(0xFF01, 0x07)] [0xB9, 0xFF, 0x00])).map (fun t => (t.a, t.pc)) =
      some (0x07#8, 0x0203#16) := by decide
/-- V9: (zp,X): pointer at 0x00FF and 0x0000, HiFirst gives 0x1234. -/
theorem test_ldaIndexedIndirectX_v9 :
    (ran (placed { at0200 with x := 0x01#8 } [(0x00FF, 0x12), (0x0000, 0x34), (0x1234, 0x56), (0x3412, 0x78)] [0xA1, 0xFE])).map
      (fun t => (t.a, t.pc)) =
      some (0x56#8, 0x0202#16) := by decide
/-- V10: same with LoFirst gives 0x3412. -/
theorem test_ldaIndexedIndirectX_v10 :
    (ran (placed { at0200 with x := 0x01#8, cfg := { Config.default with ptrOrder := .loFirst } }
        [(0x00FF, 0x12), (0x0000, 0x34), (0x1234, 0x56), (0x3412, 0x78)] [0xA1, 0xFE])).map
      (fun t => (t.a, t.pc)) =
      some (0x78#8, 0x0202#16) := by decide
/-- V11: (zp),Y: pointer second byte from 0x0000 (D4); 0x1234 + 0x10. -/
theorem test_ldaIndirectIndexedY_v11 :
    (ran (placed { at0200 with y := 0x10#8 } [(0x00FF, 0x12), (0x0000, 0x34), (0x1244, 0x0A)] [0xB1, 0xFF])).map
      (fun t => (t.a, t.pc)) =
      some (0x0A#8, 0x0202#16) := by decide
/-- V13: (zp),Y: 0xFFFF + 0xFF wraps to 0x00FE (D8). -/
theorem test_ldaIndirectIndexedY_v13 :
    (ran (placed { at0200 with y := 0xFF#8 } [(0x0020, 0xFF), (0x0021, 0xFF), (0x00FE, 0x0C)] [0xB1, 0x20])).map
      (fun t => (t.a, t.pc)) =
      some (0x0C#8, 0x0202#16) := by decide
/-- V16: pointer at 0x12FF, no page wrap (default). -/
theorem test_jmpIndirect_v16 :
    (ran (placed at0200 [(0x12FF, 0xAB), (0x1300, 0xCD), (0x1200, 0xEF)] [0x6C, 0x12, 0xFF])).map
      (fun t => (t.pc, t.result)) =
      some (0xABCD#16, none) := by decide
/-- V17: NMOS page wrap: second byte from 0x1200. -/
theorem test_jmpIndirect_v17 :
    (ran (placed { at0200 with cfg := { Config.default with jmpIndPageWrap := true } }
        [(0x12FF, 0xAB), (0x1300, 0xCD), (0x1200, 0xEF)] [0x6C, 0x12, 0xFF])).map
      (fun t => (t.pc, t.result)) =
      some (0xABEF#16, none) := by decide
/-- V18: fetch wraps: operand at 0x0000, PC wraps to 0x0001. -/
theorem test_ldaImmediate_v18 :
    (ran (placed { State.reset with pc := 0xFFFF#16 } [(0x0000, 0x42)] [0xA9])).map (fun t => (t.a, t.pc)) =
      some (0x42#8, 0x0001#16) := by decide
/-- V19: byte2 from 0x0000: EA = 0x00 :: 0x05. -/
theorem test_ldaAbsolute_v19 :
    (ran (placed { State.reset with pc := 0xFFFE#16 } [(0x0000, 0x05), (0x0005, 0x66)] [0xAD, 0x00])).map
      (fun t => (t.a, t.pc)) =
      some (0x66#8, 0x0001#16) := by decide
/-- V22: bit 7 sets N and Z is cleared. -/
theorem test_ldaImmediate_v22 :
    (ran (placed { at0200 with flagZ := true } [] [0xA9, 0x80])).map (fun t => (t.a, t.flagN)) =
      some (0x80#8, true) := by decide
/-- V23: LDX #0. -/
theorem test_ldxImmediate_v23 :
    (ran (placed { at0200 with x := 0x33#8 } [] [0xA2, 0x00])).map (fun t => (t.x, t.flagZ)) =
      some (0x00#8, true) := by decide
/-- V24: LDY #$FF. -/
theorem test_ldyImmediate_v24 :
    (ran (placed at0200 [] [0xA0, 0xFF])).map (fun t => (t.y, t.flagN)) =
      some (0xFF#8, true) := by decide
/-- V25: LDY abs,X. -/
theorem test_ldyAbsoluteX_v25 :
    (ran (placed { at0200 with x := 0x01#8 } [(0x1235, 0x44)] [0xBC, 0x12, 0x34])).map (fun t => (t.y, t.pc)) =
      some (0x44#8, 0x0203#16) := by decide
/-- V26: STA abs; no flags. -/
theorem test_staAbsolute_v26 :
    (ran (placed { at0200 with a := 0x42#8 } [] [0x8D, 0x12, 0x34])).map (fun t => (t.read 0x1234#16, t.pc)) =
      some (0x42#8, 0x0203#16) := by decide
/-- V28: STA (zp),Y, HiFirst pointer 0x3000. -/
theorem test_staIndirectIndexedY_v28 :
    (ran (placed { at0200 with a := 0x9C#8, y := 0x04#8 } [(0x0040, 0x30), (0x0041, 0x00)] [0x91, 0x40])).map
      (fun t => (t.read 0x3004#16, t.pc)) =
      some (0x9C#8, 0x0202#16) := by decide
/-- V29: STX zp. -/
theorem test_stxZeroPage_v29 :
    (ran (placed { at0200 with x := 0x07#8 } [] [0x86, 0x10])).map (fun t => (t.read 0x0010#16, t.pc)) =
      some (0x07#8, 0x0202#16) := by decide
/-- V30: STX zp,Y wraps. -/
theorem test_stxZeroPageY_v30 :
    (ran (placed { at0200 with x := 0x07#8, y := 0x20#8 } [] [0x96, 0xF0])).map (fun t => (t.read 0x0010#16, t.pc)) =
      some (0x07#8, 0x0202#16) := by decide
/-- V31: STY zp,X wraps to 0x0000. -/
theorem test_styZeroPageX_v31 :
    (ran (placed { at0200 with y := 0x09#8, x := 0x01#8 } [] [0x94, 0xFF])).map (fun t => (t.read 0x0000#16, t.pc)) =
      some (0x09#8, 0x0202#16) := by decide
/-- V32: same, prototype: 0x0100. -/
theorem test_styZeroPageX_v32 :
    (ran (placed { at0200 with y := 0x09#8, x := 0x01#8, cfg := { Config.default with zpIndexedWrap := false } } [] [0x94, 0xFF])).map
      (fun t => (t.read 0x0100#16, t.pc)) =
      some (0x09#8, 0x0202#16) := by decide
/-- V33: TAX. -/
theorem test_tax_v33 :
    (ran (placed { at0200 with a := 0x80#8 } [] [0xAA])).map (fun t => (t.x, t.flagN)) =
      some (0x80#8, true) := by decide
/-- V34: TXA of 0. -/
theorem test_txa_v34 :
    (ran (placed { at0200 with a := 0x12#8 } [] [0x8A])).map (fun t => (t.a, t.flagZ)) =
      some (0x00#8, true) := by decide
/-- V35: TAY. -/
theorem test_tay_v35 :
    (ran (placed { at0200 with a := 0x7F#8 } [] [0xA8])).map (fun t => (t.y, t.pc)) =
      some (0x7F#8, 0x0201#16) := by decide
/-- V36: TYA. -/
theorem test_tya_v36 :
    (ran (placed { at0200 with y := 0xC0#8 } [] [0x98])).map (fun t => (t.a, t.flagN)) =
      some (0xC0#8, true) := by decide
/-- V37: TSX after reset: S = 0xFF. -/
theorem test_tsx_v37 : (ran (placed at0200 [] [0xBA])).map (fun t => (t.x, t.flagN)) = some (0xFF#8, true) := by decide
/-- V38: TXS writes S = 0 (SP 0x0100), flags unchanged. -/
theorem test_txs_v38 :
    (ran (placed { at0200 with x := 0x00#8, flagZ := false, flagN := true } [] [0x9A])).map (fun t => (t.s, t.pc)) =
      some (0x00#8, 0x0201#16) := by decide
/-- V39: INX wraps. -/
theorem test_inx_v39 :
    (ran (placed { at0200 with x := 0xFF#8 } [] [0xE8])).map (fun t => (t.x, t.flagZ)) =
      some (0x00#8, true) := by decide
/-- V40: INX to 0x80. -/
theorem test_inx_v40 :
    (ran (placed { at0200 with x := 0x7F#8 } [] [0xE8])).map (fun t => (t.x, t.flagN)) =
      some (0x80#8, true) := by decide
/-- V41: INY. -/
theorem test_iny_v41 :
    (ran (placed { at0200 with y := 0xFE#8 } [] [0xC8])).map (fun t => (t.y, t.flagN)) =
      some (0xFF#8, true) := by decide
/-- V42: DEX of 0 wraps. -/
theorem test_dex_v42 : (ran (placed at0200 [] [0xCA])).map (fun t => (t.x, t.flagN)) = some (0xFF#8, true) := by decide
/-- V43: DEX, N cleared. -/
theorem test_dex_v43 :
    (ran (placed { at0200 with x := 0x80#8, flagN := true } [] [0xCA])).map (fun t => (t.x, t.flagN)) =
      some (0x7F#8, false) := by decide
/-- V44: DEY to 0. -/
theorem test_dey_v44 :
    (ran (placed { at0200 with y := 0x01#8 } [] [0x88])).map (fun t => (t.y, t.flagZ)) =
      some (0x00#8, true) := by decide
/-- V45: INC zp. -/
theorem test_incZeroPage_v45 :
    (ran (placed at0200 [(0x0010, 0x7F)] [0xE6, 0x10])).map (fun t => (t.read 0x0010#16, t.flagN)) =
      some (0x80#8, true) := by decide
/-- V46: INC abs,X wraps the cell. -/
theorem test_incAbsoluteX_v46 :
    (ran (placed { at0200 with x := 0x00#8 } [(0x1234, 0xFF)] [0xFE, 0x12, 0x34])).map
      (fun t => (t.read 0x1234#16, t.flagZ)) =
      some (0x00#8, true) := by decide
/-- V47: DEC abs of 0. -/
theorem test_decAbsolute_v47 :
    (ran (placed at0200 [] [0xCE, 0x12, 0x34])).map (fun t => (t.read 0x1234#16, t.flagN)) =
      some (0xFF#8, true) := by decide
/-- V48: DEC zp,X to 0. -/
theorem test_decZeroPageX_v48 :
    (ran (placed { at0200 with x := 0x05#8 } [(0x0015, 0x01)] [0xD6, 0x10])).map
      (fun t => (t.read 0x0015#16, t.flagZ)) =
      some (0x00#8, true) := by decide
/-- V49: PHA at SP 0x01FF. -/
theorem test_pha_v49 :
    (ran (placed { at0200 with a := 0x55#8 } [] [0x48])).map (fun t => (t.read 0x01FF#16, t.s)) =
      some (0x55#8, 0xFE#8) := by decide
/-- V50: PHA at S = 0 writes 0x0100 and wraps S. -/
theorem test_pha_v50 :
    (ran (placed { at0200 with a := 0x66#8, s := 0x00#8 } [] [0x48])).map (fun t => (t.read 0x0100#16, t.s)) =
      some (0x66#8, 0xFF#8) := by decide
/-- V51: PLA. -/
theorem test_pla_v51 :
    (ran (placed { at0200 with s := 0xFE#8 } [(0x01FF, 0x88)] [0x68])).map (fun t => (t.s, t.a)) =
      some (0xFF#8, 0x88#8) := by decide
/-- V52: PLA at S = 0xFF wraps to 0 and reads 0x0100. -/
theorem test_pla_v52 :
    (ran (placed { at0200 with a := 0x11#8 } [(0x0100, 0x00)] [0x68])).map (fun t => (t.s, t.a)) =
      some (0x00#8, 0x00#8) := by decide
/-- V53: PHP pushes flags_to_byte: C at bit 7. -/
theorem test_php_v53 :
    (ran (placed { at0200 with flagC := true } [] [0x08])).map (fun t => (t.read 0x01FF#16, t.s)) =
      some (0x80#8, 0xFE#8) := by decide
/-- V54: B (bit 3) and U (bit 2) pushed as stored, N at bit 0. -/
theorem test_php_v54 :
    (ran (placed { at0200 with flagB := true, flagU := true, flagN := true } [] [0x08])).map
      (fun t => (t.read 0x01FF#16, t.s)) =
      some (0x0D#8, 0xFE#8) := by decide
/-- V55: PLP loads bit 0 to N, bit 6 to Z. -/
theorem test_plp_v55 :
    (ran (placed { at0200 with s := 0xFE#8 } [(0x01FF, 0x41)] [0x28])).map (fun t => (t.s, t.flagN)) =
      some (0xFF#8, true) := by decide
/-- V56: PLP loads B and U too, and clears C. -/
theorem test_plp_v56 :
    (ran (placed { at0200 with s := 0xFE#8, flagC := true } [(0x01FF, 0x0C)] [0x28])).map (fun t => (t.s, t.flagC)) =
      some (0xFF#8, false) := by decide
/-- V57: the §8 JMP example. -/
theorem test_jmpAbsolute_v57 :
    (ran (placed { State.reset with pc := 0x0000#16 } [] [0x4C, 0xAA, 0x55])).map (fun t => (t.pc, t.result)) =
      some (0xAA55#16, none) := by decide
/-- V58: JMP to itself: no change at all. -/
theorem test_jmpAbsolute_v58 :
    (ran (placed { State.reset with pc := 0x0300#16 } [] [0x4C, 0x03, 0x00])).map (fun t => t.result) =
      some none := by decide
/-- V59: NOP. -/
theorem test_nop_v59 :
    (ran (placed at0200 [] [0xEA])).map (fun t => (t.pc, t.result)) =
      some (0x0201#16, none) := by decide
/-- V60: BRK: B set, PC + 1, nothing pushed. -/
theorem test_brk_v60 :
    (ran (placed { State.reset with pc := 0x0300#16 } [] [0x00])).map (fun t => (t.flagB, t.pc)) =
      some (true, 0x0301#16) := by decide
/-- V62: JSR pushes 0x0202, high byte first. -/
theorem test_jsrAbsolute_v62 :
    (ran (placed at0200 [] [0x20, 0x03, 0x00])).map (fun t => (t.pc, t.read 0x01FF#16)) =
      some (0x0300#16, 0x02#8) := by decide
/-- V63: JSR at 0xFFFE: byte2 is M[0x0000] = 0x00, so EA = 0x1200; it pushes 0x0000 into cells that already hold 0. -/
theorem test_jsrAbsolute_v63 :
    (ran (placed { State.reset with pc := 0xFFFE#16 } [] [0x20, 0x12])).map (fun t => (t.pc, t.s)) =
      some (0x1200#16, 0xFD#8) := by decide
/-- V64: RTS adds 1. -/
theorem test_rts_v64 :
    (ran (placed { at0200 with s := 0xFD#8 } [(0x01FE, 0x02), (0x01FF, 0x02)] [0x60])).map (fun t => (t.pc, t.s)) =
      some (0x0203#16, 0xFF#8) := by decide
/-- V65: RTS of 0xFFFF returns to 0x0000. -/
theorem test_rts_v65 :
    (ran (placed { at0200 with s := 0xFD#8 } [(0x01FE, 0xFF), (0x01FF, 0xFF)] [0x60])).map (fun t => (t.pc, t.s)) =
      some (0x0000#16, 0xFF#8) := by decide
/-- V66: RTI: flags, then PC low, then high; no + 1. -/
theorem test_rti_v66 :
    (ran (placed { at0200 with s := 0xFC#8 } [(0x01FD, 0x80), (0x01FE, 0x34), (0x01FF, 0x12)] [0x40])).map
      (fun t => (t.pc, t.s)) =
      some (0x1234#16, 0xFF#8) := by decide
/-- V67: BPL taken forward. -/
theorem test_bplRelative_v67 :
    (ran (placed at0200 [] [0x10, 0x04])).map (fun t => (t.pc, t.result)) =
      some (0x0206#16, none) := by decide
/-- V68: BMI not taken. -/
theorem test_bmiRelative_v68 :
    (ran (placed at0200 [] [0x30, 0x04])).map (fun t => (t.pc, t.result)) =
      some (0x0202#16, none) := by decide
/-- V69: BVC taken backward. -/
theorem test_bvcRelative_v69 :
    (ran (placed at0200 [] [0x50, 0xFC])).map (fun t => (t.pc, t.result)) =
      some (0x01FE#16, none) := by decide
/-- V70: BVS taken, displacement 0. -/
theorem test_bvsRelative_v70 :
    (ran (placed { at0200 with flagV := true } [] [0x70, 0x00])).map (fun t => (t.pc, t.result)) =
      some (0x0202#16, none) := by decide
/-- V71: BCC forward across 0xFFFF. -/
theorem test_bccRelative_v71 :
    (ran (placed { State.reset with pc := 0xFFF0#16 } [] [0x90, 0x7F])).map (fun t => (t.pc, t.result)) =
      some (0x0071#16, none) := by decide
/-- V72: BCS backward across 0x0000. -/
theorem test_bcsRelative_v72 :
    (ran (placed { State.reset with pc := 0x0010#16, flagC := true } [] [0xB0, 0x80])).map
      (fun t => (t.pc, t.result)) =
      some (0xFF92#16, none) := by decide
/-- V73: BNE loop-closing branch. -/
theorem test_bneRelative_v73 :
    (ran (placed { State.reset with pc := 0x0205#16 } [] [0xD0, 0xFB])).map (fun t => (t.pc, t.result)) =
      some (0x0202#16, none) := by decide
/-- V74: BEQ to itself: PC unchanged. -/
theorem test_beqRelative_v74 :
    (ran (placed { at0200 with flagZ := true } [] [0xF0, 0xFE])).map (fun t => (t.pc, t.result)) =
      some (0x0200#16, none) := by decide
/-- V75: BEQ not taken. -/
theorem test_beqRelative_v75 :
    (ran (placed at0200 [] [0xF0, 0xFE])).map (fun t => (t.pc, t.result)) =
      some (0x0202#16, none) := by decide
/-- V79: two negatives give a positive. -/
theorem test_adcImmediate_v79 :
    (ran (placed { at0200 with a := 0x80#8 } [] [0x69, 0xFF])).map (fun t => (t.a, t.flagV)) =
      some (0x7F#8, true) := by decide
/-- V85: signed overflow and a borrow: C becomes 0. -/
theorem test_sbcImmediate_v85 :
    (ran (placed { at0200 with a := 0x50#8, flagC := true } [] [0xE9, 0xB0])).map (fun t => (t.a, t.flagV)) =
      some (0xA0#8, true) := by decide
/-- V87: AND. -/
theorem test_andImmediate_v87 :
    (ran (placed { at0200 with a := 0xF0#8 } [] [0x29, 0x3C])).map (fun t => (t.a, t.pc)) =
      some (0x30#8, 0x0202#16) := by decide
/-- V88: AND to zero. -/
theorem test_andImmediate_v88 :
    (ran (placed { at0200 with a := 0xF0#8 } [] [0x29, 0x0F])).map (fun t => (t.a, t.flagZ)) =
      some (0x00#8, true) := by decide
/-- V89: ORA. -/
theorem test_oraImmediate_v89 :
    (ran (placed { at0200 with a := 0x01#8 } [] [0x09, 0x80])).map (fun t => (t.a, t.flagN)) =
      some (0x81#8, true) := by decide
/-- V90: EOR. -/
theorem test_eorImmediate_v90 :
    (ran (placed { at0200 with a := 0xFF#8 } [] [0x49, 0x0F])).map (fun t => (t.a, t.flagN)) =
      some (0xF0#8, true) := by decide
/-- V91: EOR with itself. -/
theorem test_eorZeroPage_v91 :
    (ran (placed { at0200 with a := 0x5A#8 } [(0x0010, 0x5A)] [0x45, 0x10])).map (fun t => (t.a, t.flagZ)) =
      some (0x00#8, true) := by decide
/-- V92: CMP equal. -/
theorem test_cmpImmediate_v92 :
    (ran (placed { at0200 with a := 0x40#8 } [] [0xC9, 0x40])).map (fun t => (t.flagC, t.flagZ)) =
      some (true, true) := by decide
/-- V93: CMP less: C = 0, N from 0xFF. -/
theorem test_cmpImmediate_v93 :
    (ran (placed { at0200 with a := 0x00#8 } [] [0xC9, 0x01])).map (fun t => (t.flagN, t.pc)) =
      some (true, 0x0202#16) := by decide
/-- V95: CPX: 0x05 - 0x0A = 0xFB. -/
theorem test_cpxImmediate_v95 :
    (ran (placed { at0200 with x := 0x05#8 } [] [0xE0, 0x0A])).map (fun t => (t.flagN, t.pc)) =
      some (true, 0x0202#16) := by decide
/-- V96: CPX 0xFF against 0. -/
theorem test_cpxImmediate_v96 :
    (ran (placed { at0200 with x := 0xFF#8 } [] [0xE0, 0x00])).map (fun t => (t.flagC, t.flagN)) =
      some (true, true) := by decide
/-- V97: CPY greater. -/
theorem test_cpyImmediate_v97 :
    (ran (placed { at0200 with y := 0x10#8 } [] [0xC0, 0x08])).map (fun t => (t.flagC, t.pc)) =
      some (true, 0x0202#16) := by decide
/-- V98: CPY 0 against 0. -/
theorem test_cpyImmediate_v98 :
    (ran (placed at0200 [] [0xC0, 0x00])).map (fun t => (t.flagC, t.flagZ)) =
      some (true, true) := by decide
/-- V99: BIT: N, V from memory. -/
theorem test_bitZeroPage_v99 :
    (ran (placed { at0200 with a := 0x01#8 } [(0x0010, 0xC0)] [0x24, 0x10])).map (fun t => (t.flagV, t.flagZ)) =
      some (true, true) := by decide
/-- V100: BIT abs: V = bit 6 = 1 stays, N cleared, Z cleared. -/
theorem test_bitAbsolute_v100 :
    (ran (placed { at0200 with a := 0x41#8, flagN := true, flagV := true, flagZ := true } [(0x1234, 0x41)] [0x2C, 0x12, 0x34])).map
      (fun t => (t.flagN, t.flagZ)) =
      some (false, false) := by decide
/-- V101: ASL A. -/
theorem test_aslAccumulator_v101 :
    (ran (placed { at0200 with a := 0x81#8 } [] [0x0A])).map (fun t => (t.a, t.flagC)) =
      some (0x02#8, true) := by decide
/-- V102: ASL A to zero. -/
theorem test_aslAccumulator_v102 :
    (ran (placed { at0200 with a := 0x80#8 } [] [0x0A])).map (fun t => (t.a, t.flagC)) =
      some (0x00#8, true) := by decide
/-- V103: ASL zp. -/
theorem test_aslZeroPage_v103 :
    (ran (placed at0200 [(0x0010, 0x40)] [0x06, 0x10])).map (fun t => (t.read 0x0010#16, t.flagN)) =
      some (0x80#8, true) := by decide
/-- V104: LSR zp. -/
theorem test_lsrZeroPage_v104 :
    (ran (placed at0200 [(0x0010, 0x03)] [0x46, 0x10])).map (fun t => (t.read 0x0010#16, t.flagC)) =
      some (0x01#8, true) := by decide
/-- V105: LSR A: N always 0. -/
theorem test_lsrAccumulator_v105 :
    (ran (placed { at0200 with a := 0x01#8, flagN := true } [] [0x4A])).map (fun t => (t.a, t.flagC)) =
      some (0x00#8, true) := by decide
/-- V106: ROL A with carry in. -/
theorem test_rolAccumulator_v106 :
    (ran (placed { at0200 with a := 0x40#8, flagC := true } [] [0x2A])).map (fun t => (t.a, t.flagC)) =
      some (0x81#8, false) := by decide
/-- V107: ROL A, carry out. -/
theorem test_rolAccumulator_v107 :
    (ran (placed { at0200 with a := 0x80#8 } [] [0x2A])).map (fun t => (t.a, t.flagC)) =
      some (0x00#8, true) := by decide
/-- V108: ROR abs, high byte first. -/
theorem test_rorAbsolute_v108 :
    (ran (placed { at0200 with flagC := true } [(0x1234, 0x02)] [0x6E, 0x12, 0x34])).map
      (fun t => (t.read 0x1234#16, t.flagC)) =
      some (0x81#8, false) := by decide
/-- V109: ROR A, carry out. -/
theorem test_rorAccumulator_v109 :
    (ran (placed { at0200 with a := 0x01#8 } [] [0x6A])).map (fun t => (t.a, t.flagC)) =
      some (0x00#8, true) := by decide
/-- V110: ROR zp,X, carry into bit 7. -/
theorem test_rorZeroPageX_v110 :
    (ran (placed { at0200 with x := 0x05#8, flagC := true } [(0x0015, 0x00)] [0x76, 0x10])).map
      (fun t => (t.read 0x0015#16, t.flagC)) =
      some (0x80#8, false) := by decide
/-- V111: CLC. -/
theorem test_clc_v111 :
    (ran (placed { at0200 with flagC := true } [] [0x18])).map (fun t => (t.flagC, t.pc)) =
      some (false, 0x0201#16) := by decide
/-- V112: SEC. -/
theorem test_sec_v112 :
    (ran (placed at0200 [] [0x38])).map (fun t => (t.flagC, t.pc)) =
      some (true, 0x0201#16) := by decide
/-- V113: CLI. -/
theorem test_cli_v113 :
    (ran (placed { at0200 with flagI := true } [] [0x58])).map (fun t => (t.flagI, t.pc)) =
      some (false, 0x0201#16) := by decide
/-- V114: SEI. -/
theorem test_sei_v114 :
    (ran (placed at0200 [] [0x78])).map (fun t => (t.flagI, t.pc)) =
      some (true, 0x0201#16) := by decide
/-- V115: CLD. -/
theorem test_cld_v115 :
    (ran (placed { at0200 with flagD := true } [] [0xD8])).map (fun t => (t.flagD, t.pc)) =
      some (false, 0x0201#16) := by decide
/-- V116: SED. -/
theorem test_sed_v116 :
    (ran (placed at0200 [] [0xF8])).map (fun t => (t.flagD, t.pc)) =
      some (true, 0x0201#16) := by decide
/-- V117: CLV. -/
theorem test_clv_v117 :
    (ran (placed { at0200 with flagV := true } [] [0xB8])).map (fun t => (t.flagV, t.pc)) =
      some (false, 0x0201#16) := by decide
/-- V119: illegal byte: no change. -/
theorem test_illegal_v119 :
    faulted (placed { at0200 with a := 0x01#8 } [] [0x02]) =
      some (.illegalOpcode 0x0200#16 0x02#8) := by decide
/-- V121: StallNoOp: Ok, nothing changes, PC stays. -/
theorem test_illegal_v121 :
    (ran (placed { at0200 with cfg := { Config.default with illegalOpcodePolicy := .stallNoOp } } [] [0x02])).map
      (fun t => t.result) =
      some none := by decide
/-- V122: ADC with D = 1 under Fault policy. -/
theorem test_adcImmediate_v122 :
    faulted (placed { at0200 with a := 0x01#8, flagD := true, cfg := { Config.default with decimalPolicy := .fault } } [] [0x69, 0x09]) =
      some (.unmodelledDecimal 0x0200#16 0x69#8) := by decide
/-- V124: SBC with D = 1 under Fault policy. -/
theorem test_sbcImmediate_v124 :
    faulted (placed { at0200 with a := 0x01#8, flagD := true, cfg := { Config.default with decimalPolicy := .fault } } [] [0xE9, 0x01]) =
      some (.unmodelledDecimal 0x0200#16 0xE9#8) := by decide

/-- R182, R36: from reset with nothing placed, the byte at PC is 0x00, which is BRK. -/
theorem test_step_from_reset_runs_brk : (ran State.reset).map (fun t => (t.pc, t.flagB)) = some (0x0001#16, true) := by
  decide
/-- R180, R82: the instruction withFetchWord places is the one the next step runs. -/
theorem test_withFetchWord_runs : (ran (State.reset.withFetchWord 24 0x55AA4C)).map (fun t => t.pc) = some 0xAA55#16 := by
  decide
/-- P7: after a fault the state is unchanged, so the next step reports the same fault (R269); under StallNoOp the step
after a stall stalls again. -/
theorem test_stall_repeats :
    ((ran (placed { at0200 with cfg := { Config.default with illegalOpcodePolicy := .stallNoOp } } [] [0x02])).bind ran).map
      (fun t => t.pc) = some 0x0200#16 := by decide

/-! ### Host operations (spec/95_test_vectors.md, section 2) -/

/-- E2: split after make is the identity. -/
theorem test_make_address_e2 : makeAddress 0xAA#8 0x55#8 = 0xAA55#16 ∧ hiByte 0xAA55#16 = 0xAA#8 ∧ loByte 0xAA55#16 = 0x55#8 := by
  decide
/-- E4: LIFO. -/
theorem test_stack_lifo_e4 :
    (pullMany (pushAll State.reset [0x55#8, 0x66#8, 0x77#8, 0x88#8]) 4).1 = [0x88#8, 0x77#8, 0x66#8, 0x55#8] ∧
      (pushAll State.reset [0x55#8, 0x66#8, 0x77#8, 0x88#8]).getSp = 0x01FB#16 := by decide
/-- H3: set_sp ignores the high byte. -/
theorem test_set_sp_h3 : (State.reset.setSp 0xAB12#16).getSp = 0x0112#16 := by decide
/-- H4. -/
theorem test_flags_from_byte_h4 :
    ((State.reset.flagsFromByte 0x81#8).flagN, (State.reset.flagsFromByte 0x81#8).flagC,
      (State.reset.flagsFromByte 0x81#8).flagZ) = (true, true, false) := by decide
/-- H7: only I set. -/
theorem test_flags_to_byte_h7 : State.flagsToByte { State.reset with flagI := true } = 0x20#8 := by decide
/-- H10: only B set. -/
theorem test_flags_to_byte_h10 : State.flagsToByte { State.reset with flagB := true } = 0x08#8 := by decide
/-- H11: Pull at S = 0xFF wraps within page 1. -/
theorem test_pull_wraps_h11 :
    ((State.reset.write 0x0100#16 0x5E#8).pull.1, (State.reset.write 0x0100#16 0x5E#8).pull.2.s) = (0x5E#8, 0x00#8) := by decide
/-- H12: Push at S = 0x00 wraps within page 1. -/
theorem test_push_wraps_h12 :
    (((State.reset.setSp 0x0100#16).push 0x77#8).read 0x0100#16, ((State.reset.setSp 0x0100#16).push 0x77#8).s) = (0x77#8, 0xFF#8) := by
  decide
/-- H16: NOP at 0xFFFF. -/
theorem test_step_wraps_h16 : (ran (placed (State.reset.setPc 0xFFFF#16) [] [0xEA])).map (fun t => t.pc) = some 0x0000#16 := by
  decide
/-- H17: a run past the end of memory is rejected. -/
theorem test_set_bytes_h17 : State.reset.setBytes 0xFFFF#16 [0x01#8, 0x02#8] = .error .outOfRange := by rfl
/-- H18: a run that ends at 0xFFFF is legal. -/
theorem test_set_bytes_h18 : State.reset.setBytes 0xFFFE#16 [0x01#8, 0x02#8] =
    .ok { State.reset with mem := [(0xFFFE, 0x01#8), (0xFFFF, 0x02#8)] } := by rfl
/-- H20: a short source is an I/O error. -/
theorem test_load_short_h20 : State.reset.load (List.replicate 65535 0xAA#8) = .error .io :=
  if_pos (by rw [List.length_replicate]; decide)
/-- H23: the memory reset leaves A. -/
theorem test_memory_reset_h23 :
    ((State.reset.setA 0x12#8).write 0x4000#16 0x34#8).memoryReset = State.reset.setA 0x12#8 := by decide
/-- H24: the CPU reset leaves memory. -/
theorem test_cpu_reset_h24 :
    (((State.reset.setPc 0x1234#16).write 0x4000#16 0x34#8).cpuReset.read 0x4000#16,
      ((State.reset.setPc 0x1234#16).write 0x4000#16 0x34#8).cpuReset.pc) = (0x34#8, 0x0000#16) := by decide
/-- H25: writing the value an unlisted cell reads as leaves no entry behind. -/
theorem test_write_zero_is_canonical : ((State.reset.write 0x0000#16 0xFF#8).write 0x0000#16 0x00#8).mem = [] := by decide
/-- R251: the host's step answers the result byte (E5). -/
theorem test_execute_one_instruction_e5 :
    executeOneInstruction (placed State.reset [] [0xA9, 0x11]) =
      some (.ok ({ placed State.reset [] [0xA9, 0x11] with a := 0x11#8, pc := 0x0002#16, result := some 0x11#8 }, some 0x11#8)) := by
  rfl

/-! ### Witnesses: for every obligation with hypotheses, a state and operands that meet them all

`w` is the state most of them use: its registers are at the ends of their ranges. -/

/-- A state with extreme register values and a pointer in page 0. -/
def w : State := placed { at0200 with a := 0x80#8, x := 0xFF#8, y := 0xFF#8, flagC := true }
  [(0x0020, 0xFF), (0x0021, 0xFF), (0x00FE, 0x0C)] [0xB1, 0x20]

/-- LDA Immediate. -/
theorem witness_LdaLoadsAccumulator :
    ∃ (st : State) (i : Instr) (op : Byte) (len ea : Word) (m : Byte),
      (ImmForm .ldaImmediate 0xA9#8 i op len m ∨
      m = st.read ea ∧
        (ZpForm .ldaZeroPage 0xA5#8 i op len ea ∨ ZpXForm .ldaZeroPageX 0xB5#8 st i op len ea ∨
         IndXForm .ldaIndexedIndirectX 0xA1#8 st i op len ea ∨ IndYForm .ldaIndirectIndexedY 0xB1#8 st i op len ea ∨
         AbsForm .ldaAbsolute 0xAD#8 i op len ea ∨ AbsXForm .ldaAbsoluteX 0xBD#8 st i op len ea ∨
         AbsYForm .ldaAbsoluteY 0xB9#8 st i op len ea)) :=
  ⟨w, .ldaImmediate 0x80#8, 0xA9#8, 2#16, 0#16, 0x80#8, .inl ⟨rfl, rfl, rfl⟩⟩

/-- LDA AbsoluteY. -/
theorem witness_LdaLoadsAccumulator_memory :
    ∃ (st : State) (i : Instr) (op : Byte) (len ea : Word) (m : Byte),
      (ImmForm .ldaImmediate 0xA9#8 i op len m ∨
      m = st.read ea ∧
        (ZpForm .ldaZeroPage 0xA5#8 i op len ea ∨ ZpXForm .ldaZeroPageX 0xB5#8 st i op len ea ∨
         IndXForm .ldaIndexedIndirectX 0xA1#8 st i op len ea ∨ IndYForm .ldaIndirectIndexedY 0xB1#8 st i op len ea ∨
         AbsForm .ldaAbsolute 0xAD#8 i op len ea ∨ AbsXForm .ldaAbsoluteX 0xBD#8 st i op len ea ∨
         AbsYForm .ldaAbsoluteY 0xB9#8 st i op len ea)) :=
  ⟨w, .ldaAbsoluteY 0xFF00#16, 0xB9#8, 3#16, eaAbsoluteY w 0xFF00#16, w.read (eaAbsoluteY w 0xFF00#16),
    .inr ⟨rfl, .inr (.inr (.inr (.inr (.inr (.inr (⟨0xFF00#16, rfl, rfl, rfl, rfl⟩))))))⟩⟩

/-- LDA in its six other forms, with pointer and index at the ends of their ranges (V13: the pointer 0xFFFF plus Y wraps). -/
theorem witness_LdaLoadsAccumulator_forms :
    ZpForm .ldaZeroPage 0xA5#8 (.ldaZeroPage 0xFF#8) 0xA5#8 2#16 0x00FF#16 ∧
    ZpXForm .ldaZeroPageX 0xB5#8 w (.ldaZeroPageX 0x01#8) 0xB5#8 2#16 0x0000#16 ∧
    IndXForm .ldaIndexedIndirectX 0xA1#8 w (.ldaIndexedIndirectX 0x21#8) 0xA1#8 2#16 0xFFFF#16 ∧
    (IndYForm .ldaIndirectIndexedY 0xB1#8 w (.ldaIndirectIndexedY 0x20#8) 0xB1#8 2#16 0x00FE#16 ∧
      w.read 0x00FE#16 = 0x0C#8) ∧
    AbsForm .ldaAbsolute 0xAD#8 (.ldaAbsolute 0xFFFF#16) 0xAD#8 3#16 0xFFFF#16 ∧
    AbsXForm .ldaAbsoluteX 0xBD#8 w (.ldaAbsoluteX 0xFF01#16) 0xBD#8 3#16 0x0000#16 :=
  ⟨⟨_, rfl, rfl, rfl, rfl⟩, ⟨_, rfl, rfl, rfl, rfl⟩, ⟨_, rfl, rfl, rfl, rfl⟩, ⟨⟨_, rfl, rfl, rfl, rfl⟩, rfl⟩, ⟨_, rfl, rfl, rfl, rfl⟩,
    ⟨_, rfl, rfl, rfl, rfl⟩⟩

/-- LDX Immediate. -/
theorem witness_LdxAndLdyLoadIndex_ldx :
    ∃ (st : State) (i : Instr) (op : Byte) (len ea : Word) (m : Byte),
      (ImmForm .ldxImmediate 0xA2#8 i op len m ∨
      m = st.read ea ∧
        (ZpForm .ldxZeroPage 0xA6#8 i op len ea ∨ ZpYForm .ldxZeroPageY 0xB6#8 st i op len ea ∨
         AbsForm .ldxAbsolute 0xAE#8 i op len ea ∨ AbsYForm .ldxAbsoluteY 0xBE#8 st i op len ea)) :=
  ⟨w, .ldxImmediate 0x80#8, 0xA2#8, 2#16, 0#16, 0x80#8, .inl ⟨rfl, rfl, rfl⟩⟩

/-- LDX AbsoluteY. -/
theorem witness_LdxAndLdyLoadIndex_ldx_memory :
    ∃ (st : State) (i : Instr) (op : Byte) (len ea : Word) (m : Byte),
      (ImmForm .ldxImmediate 0xA2#8 i op len m ∨
      m = st.read ea ∧
        (ZpForm .ldxZeroPage 0xA6#8 i op len ea ∨ ZpYForm .ldxZeroPageY 0xB6#8 st i op len ea ∨
         AbsForm .ldxAbsolute 0xAE#8 i op len ea ∨ AbsYForm .ldxAbsoluteY 0xBE#8 st i op len ea)) :=
  ⟨w, .ldxAbsoluteY 0xFF00#16, 0xBE#8, 3#16, eaAbsoluteY w 0xFF00#16, w.read (eaAbsoluteY w 0xFF00#16),
    .inr ⟨rfl, .inr (.inr (.inr (⟨0xFF00#16, rfl, rfl, rfl, rfl⟩)))⟩⟩

/-- LDY Immediate. -/
theorem witness_LdxAndLdyLoadIndex_ldy :
    ∃ (st : State) (i : Instr) (op : Byte) (len ea : Word) (m : Byte),
      (ImmForm .ldyImmediate 0xA0#8 i op len m ∨
      m = st.read ea ∧
        (ZpForm .ldyZeroPage 0xA4#8 i op len ea ∨ ZpXForm .ldyZeroPageX 0xB4#8 st i op len ea ∨
         AbsForm .ldyAbsolute 0xAC#8 i op len ea ∨ AbsXForm .ldyAbsoluteX 0xBC#8 st i op len ea)) :=
  ⟨w, .ldyImmediate 0x80#8, 0xA0#8, 2#16, 0#16, 0x80#8, .inl ⟨rfl, rfl, rfl⟩⟩

/-- LDY AbsoluteX. -/
theorem witness_LdxAndLdyLoadIndex_ldy_memory :
    ∃ (st : State) (i : Instr) (op : Byte) (len ea : Word) (m : Byte),
      (ImmForm .ldyImmediate 0xA0#8 i op len m ∨
      m = st.read ea ∧
        (ZpForm .ldyZeroPage 0xA4#8 i op len ea ∨ ZpXForm .ldyZeroPageX 0xB4#8 st i op len ea ∨
         AbsForm .ldyAbsolute 0xAC#8 i op len ea ∨ AbsXForm .ldyAbsoluteX 0xBC#8 st i op len ea)) :=
  ⟨w, .ldyAbsoluteX 0xFF00#16, 0xBC#8, 3#16, eaAbsoluteX w 0xFF00#16, w.read (eaAbsoluteX w 0xFF00#16),
    .inr ⟨rfl, .inr (.inr (.inr (⟨0xFF00#16, rfl, rfl, rfl, rfl⟩)))⟩⟩

/-- STA AbsoluteY at the top of memory. -/
theorem witness_StaStoresAccumulator :
    ∃ (st : State) (i : Instr) (op : Byte) (len ea : Word),
      (ZpForm .staZeroPage 0x85#8 i op len ea ∨ ZpXForm .staZeroPageX 0x95#8 st i op len ea ∨
       IndXForm .staIndexedIndirectX 0x81#8 st i op len ea ∨ IndYForm .staIndirectIndexedY 0x91#8 st i op len ea ∨
       AbsForm .staAbsolute 0x8D#8 i op len ea ∨ AbsXForm .staAbsoluteX 0x9D#8 st i op len ea ∨
       AbsYForm .staAbsoluteY 0x99#8 st i op len ea) :=
  ⟨w, .staAbsoluteY 0xFFFF#16, 0x99#8, 3#16, eaAbsoluteY w 0xFFFF#16, .inr (.inr (.inr (.inr (.inr (.inr (⟨0xFFFF#16, rfl, rfl, rfl, rfl⟩))))))⟩

/-- STX Absolute at the top of memory. -/
theorem witness_StxAndStyStoreIndex_stx :
    ∃ (st : State) (i : Instr) (op : Byte) (len ea : Word),
      (ZpForm .stxZeroPage 0x86#8 i op len ea ∨ ZpYForm .stxZeroPageY 0x96#8 st i op len ea ∨
       AbsForm .stxAbsolute 0x8E#8 i op len ea) :=
  ⟨w, .stxAbsolute 0xFFFF#16, 0x8E#8, 3#16, eaAbsolute 0xFFFF#16, .inr (.inr (⟨0xFFFF#16, rfl, rfl, rfl, rfl⟩))⟩

/-- STY Absolute at the top of memory. -/
theorem witness_StxAndStyStoreIndex_sty :
    ∃ (st : State) (i : Instr) (op : Byte) (len ea : Word),
      (ZpForm .styZeroPage 0x84#8 i op len ea ∨ ZpXForm .styZeroPageX 0x94#8 st i op len ea ∨
       AbsForm .styAbsolute 0x8C#8 i op len ea) :=
  ⟨w, .styAbsolute 0xFFFF#16, 0x8C#8, 3#16, eaAbsolute 0xFFFF#16, .inr (.inr (⟨0xFFFF#16, rfl, rfl, rfl, rfl⟩))⟩

/-- INC AbsoluteX at the top of memory. -/
theorem witness_IncAndDecModifyOneCell_inc :
    ∃ (st : State) (i : Instr) (op : Byte) (len ea : Word),
      (ZpForm .incZeroPage 0xE6#8 i op len ea ∨ ZpXForm .incZeroPageX 0xF6#8 st i op len ea ∨
       AbsForm .incAbsolute 0xEE#8 i op len ea ∨ AbsXForm .incAbsoluteX 0xFE#8 st i op len ea) :=
  ⟨w, .incAbsoluteX 0xFFFF#16, 0xFE#8, 3#16, eaAbsoluteX w 0xFFFF#16, .inr (.inr (.inr (⟨0xFFFF#16, rfl, rfl, rfl, rfl⟩)))⟩

/-- DEC AbsoluteX at the top of memory. -/
theorem witness_IncAndDecModifyOneCell_dec :
    ∃ (st : State) (i : Instr) (op : Byte) (len ea : Word),
      (ZpForm .decZeroPage 0xC6#8 i op len ea ∨ ZpXForm .decZeroPageX 0xD6#8 st i op len ea ∨
       AbsForm .decAbsolute 0xCE#8 i op len ea ∨ AbsXForm .decAbsoluteX 0xDE#8 st i op len ea) :=
  ⟨w, .decAbsoluteX 0xFFFF#16, 0xDE#8, 3#16, eaAbsoluteX w 0xFFFF#16, .inr (.inr (.inr (⟨0xFFFF#16, rfl, rfl, rfl, rfl⟩)))⟩

/-- Push at S = 0xFF. -/
theorem witness_PushAndPullUsePageOne_push :
    ∃ (st : State) (sp : Word), sp.toNat = 256 + st.s.toNat :=
  ⟨State.reset, 0x01FF#16, rfl⟩

/-- Pull at S = 0xFF wraps to 0x0100. -/
theorem witness_PushAndPullUsePageOne_pull :
    ∃ (st : State) (sp : Word), sp.toNat = 256 + (st.s.toNat + 1) % 256 :=
  ⟨State.reset, 0x0100#16, rfl⟩

/-- The longest list. -/
theorem witness_PushesThenPullsReverse :
    ∃ vs : List Byte, vs.length ≤ 256 ∧ vs.length = 256 :=
  ⟨List.replicate 256 0x55#8, by rw [List.length_replicate], by rw [List.length_replicate]⟩

/-- S = 0xFF (H11). -/
theorem witness_PlaAndPlpPull :
    ∃ (st : State) (b : Byte), b = st.read (stackCell (st.s + 1#8)) :=
  ⟨State.reset.write 0x0100#16 0x5E#8, 0x5E#8, rfl⟩

/-- V66. -/
theorem witness_RtiRestoresFlagsAndPc :
    ∃ (st : State) (b : Byte), b = st.read (stackCell (st.s + 1#8)) :=
  ⟨placed { at0200 with s := 0xFC#8 } [(0x01FD, 0x80), (0x01FE, 0x34), (0x01FF, 0x12)] [0x40], 0x80#8, rfl⟩

/-- BPL taken, the most negative displacement. -/
theorem witness_BranchesAddSignedDisplacement :
    ∃ (st : State) (i : Instr) (op rel : Byte) (cond : Bool),
    ((i = .bplRelative rel ∧ op = 0x10#8 ∧ cond = (!st.flagN)) ∨
      (i = .bmiRelative rel ∧ op = 0x30#8 ∧ cond = st.flagN) ∨
      (i = .bvcRelative rel ∧ op = 0x50#8 ∧ cond = (!st.flagV)) ∨
      (i = .bvsRelative rel ∧ op = 0x70#8 ∧ cond = st.flagV) ∨
      (i = .bccRelative rel ∧ op = 0x90#8 ∧ cond = (!st.flagC)) ∨
      (i = .bcsRelative rel ∧ op = 0xB0#8 ∧ cond = st.flagC) ∨
      (i = .bneRelative rel ∧ op = 0xD0#8 ∧ cond = (!st.flagZ)) ∨
      (i = .beqRelative rel ∧ op = 0xF0#8 ∧ cond = st.flagZ)) :=
  ⟨State.reset, .bplRelative 0x80#8, 0x10#8, 0x80#8, true, .inl ⟨rfl, rfl, rfl⟩⟩

/-- BEQ not taken, the most positive displacement. -/
theorem witness_BranchesAddSignedDisplacement_last :
    ∃ (st : State) (i : Instr) (op rel : Byte) (cond : Bool),
    ((i = .bplRelative rel ∧ op = 0x10#8 ∧ cond = (!st.flagN)) ∨
      (i = .bmiRelative rel ∧ op = 0x30#8 ∧ cond = st.flagN) ∨
      (i = .bvcRelative rel ∧ op = 0x50#8 ∧ cond = (!st.flagV)) ∨
      (i = .bvsRelative rel ∧ op = 0x70#8 ∧ cond = st.flagV) ∨
      (i = .bccRelative rel ∧ op = 0x90#8 ∧ cond = (!st.flagC)) ∨
      (i = .bcsRelative rel ∧ op = 0xB0#8 ∧ cond = st.flagC) ∨
      (i = .bneRelative rel ∧ op = 0xD0#8 ∧ cond = (!st.flagZ)) ∨
      (i = .beqRelative rel ∧ op = 0xF0#8 ∧ cond = st.flagZ)) :=
  ⟨State.reset, .beqRelative 0x7F#8, 0xF0#8, 0x7F#8, false,
    .inr (.inr (.inr (.inr (.inr (.inr (.inr ⟨rfl, rfl, rfl⟩))))))⟩

/-- ADC Immediate. -/
theorem witness_AdcAddsWithCarry :
    ∃ (st : State) (i : Instr) (op : Byte) (len ea : Word) (m : Byte),
      (ImmForm .adcImmediate 0x69#8 i op len m ∨
      m = st.read ea ∧
        (ZpForm .adcZeroPage 0x65#8 i op len ea ∨ ZpXForm .adcZeroPageX 0x75#8 st i op len ea ∨
         IndXForm .adcIndexedIndirectX 0x61#8 st i op len ea ∨ IndYForm .adcIndirectIndexedY 0x71#8 st i op len ea ∨
         AbsForm .adcAbsolute 0x6D#8 i op len ea ∨ AbsXForm .adcAbsoluteX 0x7D#8 st i op len ea ∨
         AbsYForm .adcAbsoluteY 0x79#8 st i op len ea)) :=
  ⟨w, .adcImmediate 0x80#8, 0x69#8, 2#16, 0#16, 0x80#8, .inl ⟨rfl, rfl, rfl⟩⟩

/-- ADC AbsoluteY. -/
theorem witness_AdcAddsWithCarry_memory :
    ∃ (st : State) (i : Instr) (op : Byte) (len ea : Word) (m : Byte),
      (ImmForm .adcImmediate 0x69#8 i op len m ∨
      m = st.read ea ∧
        (ZpForm .adcZeroPage 0x65#8 i op len ea ∨ ZpXForm .adcZeroPageX 0x75#8 st i op len ea ∨
         IndXForm .adcIndexedIndirectX 0x61#8 st i op len ea ∨ IndYForm .adcIndirectIndexedY 0x71#8 st i op len ea ∨
         AbsForm .adcAbsolute 0x6D#8 i op len ea ∨ AbsXForm .adcAbsoluteX 0x7D#8 st i op len ea ∨
         AbsYForm .adcAbsoluteY 0x79#8 st i op len ea)) :=
  ⟨w, .adcAbsoluteY 0xFF00#16, 0x79#8, 3#16, eaAbsoluteY w 0xFF00#16, w.read (eaAbsoluteY w 0xFF00#16),
    .inr ⟨rfl, .inr (.inr (.inr (.inr (.inr (.inr (⟨0xFF00#16, rfl, rfl, rfl, rfl⟩))))))⟩⟩

/-- SBC Immediate. -/
theorem witness_SbcSubtractsWithBorrow :
    ∃ (st : State) (i : Instr) (op : Byte) (len ea : Word) (m : Byte),
      (ImmForm .sbcImmediate 0xE9#8 i op len m ∨
      m = st.read ea ∧
        (ZpForm .sbcZeroPage 0xE5#8 i op len ea ∨ ZpXForm .sbcZeroPageX 0xF5#8 st i op len ea ∨
         IndXForm .sbcIndexedIndirectX 0xE1#8 st i op len ea ∨ IndYForm .sbcIndirectIndexedY 0xF1#8 st i op len ea ∨
         AbsForm .sbcAbsolute 0xED#8 i op len ea ∨ AbsXForm .sbcAbsoluteX 0xFD#8 st i op len ea ∨
         AbsYForm .sbcAbsoluteY 0xF9#8 st i op len ea)) :=
  ⟨w, .sbcImmediate 0x80#8, 0xE9#8, 2#16, 0#16, 0x80#8, .inl ⟨rfl, rfl, rfl⟩⟩

/-- SBC AbsoluteY. -/
theorem witness_SbcSubtractsWithBorrow_memory :
    ∃ (st : State) (i : Instr) (op : Byte) (len ea : Word) (m : Byte),
      (ImmForm .sbcImmediate 0xE9#8 i op len m ∨
      m = st.read ea ∧
        (ZpForm .sbcZeroPage 0xE5#8 i op len ea ∨ ZpXForm .sbcZeroPageX 0xF5#8 st i op len ea ∨
         IndXForm .sbcIndexedIndirectX 0xE1#8 st i op len ea ∨ IndYForm .sbcIndirectIndexedY 0xF1#8 st i op len ea ∨
         AbsForm .sbcAbsolute 0xED#8 i op len ea ∨ AbsXForm .sbcAbsoluteX 0xFD#8 st i op len ea ∨
         AbsYForm .sbcAbsoluteY 0xF9#8 st i op len ea)) :=
  ⟨w, .sbcAbsoluteY 0xFF00#16, 0xF9#8, 3#16, eaAbsoluteY w 0xFF00#16, w.read (eaAbsoluteY w 0xFF00#16),
    .inr ⟨rfl, .inr (.inr (.inr (.inr (.inr (.inr (⟨0xFF00#16, rfl, rfl, rfl, rfl⟩))))))⟩⟩

/-- Both cases of ADC and SBC at the witnesses above: binary by D = 0, binary by the policy, and the decimal fault. -/
theorem witness_AdcAndSbc_decimal_cases :
    (w.flagD = false ∨ w.cfg.decimalPolicy = .binary) ∧
    (State.flagD { w with flagD := true } = true ∧
      (State.flagD { w with flagD := true } = false ∨ (State.cfg { w with flagD := true }).decimalPolicy = .binary)) ∧
    (State.flagD { w with flagD := true, cfg := { Config.default with decimalPolicy := .fault } } = true ∧
      (State.cfg { w with flagD := true, cfg := { Config.default with decimalPolicy := .fault } }).decimalPolicy = .fault) := by
  decide

/-- AND Immediate. -/
theorem witness_LogicOpsBitwise_and :
    ∃ (st : State) (i : Instr) (op : Byte) (len ea : Word) (m : Byte),
      (ImmForm .andImmediate 0x29#8 i op len m ∨
      m = st.read ea ∧
        (ZpForm .andZeroPage 0x25#8 i op len ea ∨ ZpXForm .andZeroPageX 0x35#8 st i op len ea ∨
         IndXForm .andIndexedIndirectX 0x21#8 st i op len ea ∨ IndYForm .andIndirectIndexedY 0x31#8 st i op len ea ∨
         AbsForm .andAbsolute 0x2D#8 i op len ea ∨ AbsXForm .andAbsoluteX 0x3D#8 st i op len ea ∨
         AbsYForm .andAbsoluteY 0x39#8 st i op len ea)) :=
  ⟨w, .andImmediate 0x80#8, 0x29#8, 2#16, 0#16, 0x80#8, .inl ⟨rfl, rfl, rfl⟩⟩

/-- AND AbsoluteY. -/
theorem witness_LogicOpsBitwise_and_memory :
    ∃ (st : State) (i : Instr) (op : Byte) (len ea : Word) (m : Byte),
      (ImmForm .andImmediate 0x29#8 i op len m ∨
      m = st.read ea ∧
        (ZpForm .andZeroPage 0x25#8 i op len ea ∨ ZpXForm .andZeroPageX 0x35#8 st i op len ea ∨
         IndXForm .andIndexedIndirectX 0x21#8 st i op len ea ∨ IndYForm .andIndirectIndexedY 0x31#8 st i op len ea ∨
         AbsForm .andAbsolute 0x2D#8 i op len ea ∨ AbsXForm .andAbsoluteX 0x3D#8 st i op len ea ∨
         AbsYForm .andAbsoluteY 0x39#8 st i op len ea)) :=
  ⟨w, .andAbsoluteY 0xFF00#16, 0x39#8, 3#16, eaAbsoluteY w 0xFF00#16, w.read (eaAbsoluteY w 0xFF00#16),
    .inr ⟨rfl, .inr (.inr (.inr (.inr (.inr (.inr (⟨0xFF00#16, rfl, rfl, rfl, rfl⟩))))))⟩⟩

/-- ORA Immediate. -/
theorem witness_LogicOpsBitwise_ora :
    ∃ (st : State) (i : Instr) (op : Byte) (len ea : Word) (m : Byte),
      (ImmForm .oraImmediate 0x09#8 i op len m ∨
      m = st.read ea ∧
        (ZpForm .oraZeroPage 0x05#8 i op len ea ∨ ZpXForm .oraZeroPageX 0x15#8 st i op len ea ∨
         IndXForm .oraIndexedIndirectX 0x01#8 st i op len ea ∨ IndYForm .oraIndirectIndexedY 0x11#8 st i op len ea ∨
         AbsForm .oraAbsolute 0x0D#8 i op len ea ∨ AbsXForm .oraAbsoluteX 0x1D#8 st i op len ea ∨
         AbsYForm .oraAbsoluteY 0x19#8 st i op len ea)) :=
  ⟨w, .oraImmediate 0x80#8, 0x09#8, 2#16, 0#16, 0x80#8, .inl ⟨rfl, rfl, rfl⟩⟩

/-- ORA AbsoluteY. -/
theorem witness_LogicOpsBitwise_ora_memory :
    ∃ (st : State) (i : Instr) (op : Byte) (len ea : Word) (m : Byte),
      (ImmForm .oraImmediate 0x09#8 i op len m ∨
      m = st.read ea ∧
        (ZpForm .oraZeroPage 0x05#8 i op len ea ∨ ZpXForm .oraZeroPageX 0x15#8 st i op len ea ∨
         IndXForm .oraIndexedIndirectX 0x01#8 st i op len ea ∨ IndYForm .oraIndirectIndexedY 0x11#8 st i op len ea ∨
         AbsForm .oraAbsolute 0x0D#8 i op len ea ∨ AbsXForm .oraAbsoluteX 0x1D#8 st i op len ea ∨
         AbsYForm .oraAbsoluteY 0x19#8 st i op len ea)) :=
  ⟨w, .oraAbsoluteY 0xFF00#16, 0x19#8, 3#16, eaAbsoluteY w 0xFF00#16, w.read (eaAbsoluteY w 0xFF00#16),
    .inr ⟨rfl, .inr (.inr (.inr (.inr (.inr (.inr (⟨0xFF00#16, rfl, rfl, rfl, rfl⟩))))))⟩⟩

/-- EOR Immediate. -/
theorem witness_LogicOpsBitwise_eor :
    ∃ (st : State) (i : Instr) (op : Byte) (len ea : Word) (m : Byte),
      (ImmForm .eorImmediate 0x49#8 i op len m ∨
      m = st.read ea ∧
        (ZpForm .eorZeroPage 0x45#8 i op len ea ∨ ZpXForm .eorZeroPageX 0x55#8 st i op len ea ∨
         IndXForm .eorIndexedIndirectX 0x41#8 st i op len ea ∨ IndYForm .eorIndirectIndexedY 0x51#8 st i op len ea ∨
         AbsForm .eorAbsolute 0x4D#8 i op len ea ∨ AbsXForm .eorAbsoluteX 0x5D#8 st i op len ea ∨
         AbsYForm .eorAbsoluteY 0x59#8 st i op len ea)) :=
  ⟨w, .eorImmediate 0x80#8, 0x49#8, 2#16, 0#16, 0x80#8, .inl ⟨rfl, rfl, rfl⟩⟩

/-- EOR AbsoluteY. -/
theorem witness_LogicOpsBitwise_eor_memory :
    ∃ (st : State) (i : Instr) (op : Byte) (len ea : Word) (m : Byte),
      (ImmForm .eorImmediate 0x49#8 i op len m ∨
      m = st.read ea ∧
        (ZpForm .eorZeroPage 0x45#8 i op len ea ∨ ZpXForm .eorZeroPageX 0x55#8 st i op len ea ∨
         IndXForm .eorIndexedIndirectX 0x41#8 st i op len ea ∨ IndYForm .eorIndirectIndexedY 0x51#8 st i op len ea ∨
         AbsForm .eorAbsolute 0x4D#8 i op len ea ∨ AbsXForm .eorAbsoluteX 0x5D#8 st i op len ea ∨
         AbsYForm .eorAbsoluteY 0x59#8 st i op len ea)) :=
  ⟨w, .eorAbsoluteY 0xFF00#16, 0x59#8, 3#16, eaAbsoluteY w 0xFF00#16, w.read (eaAbsoluteY w 0xFF00#16),
    .inr ⟨rfl, .inr (.inr (.inr (.inr (.inr (.inr (⟨0xFF00#16, rfl, rfl, rfl, rfl⟩))))))⟩⟩

/-- CMP Immediate. -/
theorem witness_ComparesSetCarryZeroNegative_cmp :
    ∃ (st : State) (i : Instr) (op : Byte) (len ea : Word) (m : Byte),
      (ImmForm .cmpImmediate 0xC9#8 i op len m ∨
      m = st.read ea ∧
        (ZpForm .cmpZeroPage 0xC5#8 i op len ea ∨ ZpXForm .cmpZeroPageX 0xD5#8 st i op len ea ∨
         IndXForm .cmpIndexedIndirectX 0xC1#8 st i op len ea ∨ IndYForm .cmpIndirectIndexedY 0xD1#8 st i op len ea ∨
         AbsForm .cmpAbsolute 0xCD#8 i op len ea ∨ AbsXForm .cmpAbsoluteX 0xDD#8 st i op len ea ∨
         AbsYForm .cmpAbsoluteY 0xD9#8 st i op len ea)) :=
  ⟨w, .cmpImmediate 0x80#8, 0xC9#8, 2#16, 0#16, 0x80#8, .inl ⟨rfl, rfl, rfl⟩⟩

/-- CMP AbsoluteY. -/
theorem witness_ComparesSetCarryZeroNegative_cmp_memory :
    ∃ (st : State) (i : Instr) (op : Byte) (len ea : Word) (m : Byte),
      (ImmForm .cmpImmediate 0xC9#8 i op len m ∨
      m = st.read ea ∧
        (ZpForm .cmpZeroPage 0xC5#8 i op len ea ∨ ZpXForm .cmpZeroPageX 0xD5#8 st i op len ea ∨
         IndXForm .cmpIndexedIndirectX 0xC1#8 st i op len ea ∨ IndYForm .cmpIndirectIndexedY 0xD1#8 st i op len ea ∨
         AbsForm .cmpAbsolute 0xCD#8 i op len ea ∨ AbsXForm .cmpAbsoluteX 0xDD#8 st i op len ea ∨
         AbsYForm .cmpAbsoluteY 0xD9#8 st i op len ea)) :=
  ⟨w, .cmpAbsoluteY 0xFF00#16, 0xD9#8, 3#16, eaAbsoluteY w 0xFF00#16, w.read (eaAbsoluteY w 0xFF00#16),
    .inr ⟨rfl, .inr (.inr (.inr (.inr (.inr (.inr (⟨0xFF00#16, rfl, rfl, rfl, rfl⟩))))))⟩⟩

/-- CPX Immediate. -/
theorem witness_ComparesSetCarryZeroNegative_cpx :
    ∃ (st : State) (i : Instr) (op : Byte) (len ea : Word) (m : Byte),
      (ImmForm .cpxImmediate 0xE0#8 i op len m ∨
      m = st.read ea ∧
        (ZpForm .cpxZeroPage 0xE4#8 i op len ea ∨ AbsForm .cpxAbsolute 0xEC#8 i op len ea)) :=
  ⟨w, .cpxImmediate 0x80#8, 0xE0#8, 2#16, 0#16, 0x80#8, .inl ⟨rfl, rfl, rfl⟩⟩

/-- CPX Absolute. -/
theorem witness_ComparesSetCarryZeroNegative_cpx_memory :
    ∃ (st : State) (i : Instr) (op : Byte) (len ea : Word) (m : Byte),
      (ImmForm .cpxImmediate 0xE0#8 i op len m ∨
      m = st.read ea ∧
        (ZpForm .cpxZeroPage 0xE4#8 i op len ea ∨ AbsForm .cpxAbsolute 0xEC#8 i op len ea)) :=
  ⟨w, .cpxAbsolute 0xFF00#16, 0xEC#8, 3#16, eaAbsolute 0xFF00#16, w.read (eaAbsolute 0xFF00#16),
    .inr ⟨rfl, .inr (⟨0xFF00#16, rfl, rfl, rfl, rfl⟩)⟩⟩

/-- CPY Immediate. -/
theorem witness_ComparesSetCarryZeroNegative_cpy :
    ∃ (st : State) (i : Instr) (op : Byte) (len ea : Word) (m : Byte),
      (ImmForm .cpyImmediate 0xC0#8 i op len m ∨
      m = st.read ea ∧
        (ZpForm .cpyZeroPage 0xC4#8 i op len ea ∨ AbsForm .cpyAbsolute 0xCC#8 i op len ea)) :=
  ⟨w, .cpyImmediate 0x80#8, 0xC0#8, 2#16, 0#16, 0x80#8, .inl ⟨rfl, rfl, rfl⟩⟩

/-- CPY Absolute. -/
theorem witness_ComparesSetCarryZeroNegative_cpy_memory :
    ∃ (st : State) (i : Instr) (op : Byte) (len ea : Word) (m : Byte),
      (ImmForm .cpyImmediate 0xC0#8 i op len m ∨
      m = st.read ea ∧
        (ZpForm .cpyZeroPage 0xC4#8 i op len ea ∨ AbsForm .cpyAbsolute 0xCC#8 i op len ea)) :=
  ⟨w, .cpyAbsolute 0xFF00#16, 0xCC#8, 3#16, eaAbsolute 0xFF00#16, w.read (eaAbsolute 0xFF00#16),
    .inr ⟨rfl, .inr (⟨0xFF00#16, rfl, rfl, rfl, rfl⟩)⟩⟩

/-- BIT Absolute. -/
theorem witness_BitTestsMemoryOperand :
    ∃ (st : State) (i : Instr) (op : Byte) (len ea : Word) (m : Byte), m = st.read ea ∧
      (ZpForm .bitZeroPage 0x24#8 i op len ea ∨ AbsForm .bitAbsolute 0x2C#8 i op len ea) :=
  ⟨w, .bitAbsolute 0x00FE#16, 0x2C#8, 3#16, 0x00FE#16, 0x0C#8, rfl, .inr ⟨0x00FE#16, rfl, rfl, rfl, rfl⟩⟩

/-- ASL AbsoluteX at the top of memory. -/
theorem witness_AslDoublesIntoCarry :
    ∃ (st : State) (i : Instr) (op : Byte) (len ea : Word),
      (ZpForm .aslZeroPage 0x06#8 i op len ea ∨ ZpXForm .aslZeroPageX 0x16#8 st i op len ea ∨
       AbsForm .aslAbsolute 0x0E#8 i op len ea ∨ AbsXForm .aslAbsoluteX 0x1E#8 st i op len ea) :=
  ⟨w, .aslAbsoluteX 0xFFFF#16, 0x1E#8, 3#16, eaAbsoluteX w 0xFFFF#16, .inr (.inr (.inr (⟨0xFFFF#16, rfl, rfl, rfl, rfl⟩)))⟩

/-- LSR AbsoluteX at the top of memory. -/
theorem witness_LsrHalvesIntoCarry :
    ∃ (st : State) (i : Instr) (op : Byte) (len ea : Word),
      (ZpForm .lsrZeroPage 0x46#8 i op len ea ∨ ZpXForm .lsrZeroPageX 0x56#8 st i op len ea ∨
       AbsForm .lsrAbsolute 0x4E#8 i op len ea ∨ AbsXForm .lsrAbsoluteX 0x5E#8 st i op len ea) :=
  ⟨w, .lsrAbsoluteX 0xFFFF#16, 0x5E#8, 3#16, eaAbsoluteX w 0xFFFF#16, .inr (.inr (.inr (⟨0xFFFF#16, rfl, rfl, rfl, rfl⟩)))⟩

/-- ROL AbsoluteX at the top of memory. -/
theorem witness_RolRotatesLeftThroughCarry :
    ∃ (st : State) (i : Instr) (op : Byte) (len ea : Word),
      (ZpForm .rolZeroPage 0x26#8 i op len ea ∨ ZpXForm .rolZeroPageX 0x36#8 st i op len ea ∨
       AbsForm .rolAbsolute 0x2E#8 i op len ea ∨ AbsXForm .rolAbsoluteX 0x3E#8 st i op len ea) :=
  ⟨w, .rolAbsoluteX 0xFFFF#16, 0x3E#8, 3#16, eaAbsoluteX w 0xFFFF#16, .inr (.inr (.inr (⟨0xFFFF#16, rfl, rfl, rfl, rfl⟩)))⟩

/-- ROR AbsoluteX at the top of memory. -/
theorem witness_RorRotatesRightThroughCarry :
    ∃ (st : State) (i : Instr) (op : Byte) (len ea : Word),
      (ZpForm .rorZeroPage 0x66#8 i op len ea ∨ ZpXForm .rorZeroPageX 0x76#8 st i op len ea ∨
       AbsForm .rorAbsolute 0x6E#8 i op len ea ∨ AbsXForm .rorAbsoluteX 0x7E#8 st i op len ea) :=
  ⟨w, .rorAbsoluteX 0xFFFF#16, 0x7E#8, 3#16, eaAbsoluteX w 0xFFFF#16, .inr (.inr (.inr (⟨0xFFFF#16, rfl, rfl, rfl, rfl⟩)))⟩

/-- The last illegal byte, 0xFF, under the default policy (V120). -/
theorem witness_IllegalByteFaults : ∃ st : State, (st.read st.pc).toNat ∈ illegalBytes ∧ st.cfg.illegalOpcodePolicy = .fault :=
  ⟨placed at0200 [] [0xFF], by decide, rfl⟩

/-- The first illegal byte, 0x02, under StallNoOp (V121). -/
theorem witness_StallPolicyChangesNothing :
    ∃ st : State, (st.read st.pc).toNat ∈ illegalBytes ∧ st.cfg.illegalOpcodePolicy = .stallNoOp :=
  ⟨placed { at0200 with cfg := { Config.default with illegalOpcodePolicy := .stallNoOp } } [] [0x02], by decide, rfl⟩

/-- A byte of each kind: 0xFE is INC AbsoluteX, its neighbour 0xFF is illegal. -/
theorem witness_EveryOtherByteDecodes :
    (∃ op : Byte, op.toNat ∉ illegalBytes) ∧ (∃ op : Byte, op.toNat ∈ illegalBytes) :=
  ⟨⟨0xFE#8, by decide⟩, ⟨0xFF#8, by decide⟩⟩

/-- V19: the three fetched bytes wrap past 0xFFFF. -/
theorem witness_StepRunsDecodedInstruction : ∃ (st : State) (i : Instr),
    decodeFetched (st.read st.pc) (st.read (st.pc + 1#16)) (st.read (st.pc + 2#16)) = .ok i ∧ i.wellFormed = true :=
  ⟨placed { State.reset with pc := 0xFFFE#16 } [(0x0000, 0x05)] [0xAD, 0x00], .ldaAbsolute 0x0005#16, rfl, rfl⟩

/-- The same bytes as the encoding of LDA Absolute. -/
theorem witness_StepRunsEncodedBytes : ∃ (st : State) (i : Instr),
    ∀ (k : Nat) (h : k < (encode i).length), st.read (st.pc + BitVec.ofNat 16 k) = (encode i)[k] :=
  ⟨placed { State.reset with pc := 0xFFFE#16 } [(0x0000, 0x05)] [0xAD, 0x00], .ldaAbsolute 0x0005#16, by decide⟩

/-- Every instruction is well formed, this one too. -/
theorem witness_DecodeOfEncodeIsIdentity : ∃ i : Instr, i.wellFormed = true := ⟨.rorAbsoluteX 0xFFFF#16, rfl⟩

/-- Bytes that decode with one left. -/
theorem witness_EncodeOfDecodeIsIdentity : ∃ (bytes rest : List Byte) (i : Instr), decode bytes = .ok (i, rest) :=
  ⟨[0x7E#8, 0xFF#8, 0xFF#8, 0x00#8], [0x00#8], .rorAbsoluteX 0xFFFF#16, rfl⟩

/-- NOP at 0xFFFF. -/
theorem witness_SequentialInstructionsAdvanceByLength : ∃ (i : Instr) (st t : State),
    i.mnemonic ∉ [.jmp, .jsr, .rts, .rti, .bpl, .bmi, .bvc, .bvs, .bcc, .bcs, .bne, .beq] ∧ exec i st = .next t :=
  ⟨.nop, { State.reset with pc := 0xFFFF#16 }, _, by decide, rfl⟩

/-- The mode of LDX ZeroPageY. -/
theorem witness_ZeroPageAddresses : ∃ i : Instr, i.mode = .zeroPageY := ⟨.ldxZeroPageY 0xFF#8, rfl⟩

/-- The pointer 0xFFFF under both settings of JMP_IND_PAGE_WRAP, and an Indirect instruction. -/
theorem witness_IndirectPointerAddresses :
    (∃ i : Instr, i.mode = .indirect) ∧
    (∃ (st : State) (ptr succ : Word), st.cfg.jmpIndPageWrap = false ∧
      succ.toNat = (if st.cfg.jmpIndPageWrap then ptr.toNat / 256 * 256 + (ptr.toNat % 256 + 1) % 256
        else (ptr.toNat + 1) % 65536)) ∧
    (∃ (st : State) (ptr succ : Word), st.cfg.jmpIndPageWrap = true ∧
      succ.toNat = (if st.cfg.jmpIndPageWrap then ptr.toNat / 256 * 256 + (ptr.toNat % 256 + 1) % 256
        else (ptr.toNat + 1) % 65536)) :=
  ⟨⟨.jmpIndirect 0xFFFF#16, rfl⟩, ⟨State.reset, 0xFFFF#16, 0x0000#16, rfl, rfl⟩,
    ⟨{ State.reset with cfg := { Config.default with jmpIndPageWrap := true } }, 0xFFFF#16, 0xFF00#16, rfl, rfl⟩⟩

/-- Both pointer modes with the second byte of the pointer wrapping to 0x0000 (V9, V11). -/
theorem witness_ZeroPagePointerAddresses :
    (∃ (st : State) (zp : Byte) (first second : Word),
      first.toNat = (zp.toNat + st.x.toNat) % 256 ∧ second.toNat = (zp.toNat + st.x.toNat + 1) % 256 ∧
        second.toNat < first.toNat) ∧
    (∃ (zp : Byte) (first second : Word),
      first.toNat = zp.toNat ∧ second.toNat = (zp.toNat + 1) % 256 ∧ second.toNat < first.toNat) :=
  ⟨⟨{ State.reset with x := 0x01#8 }, 0xFE#8, 0x00FF#16, 0x0000#16, rfl, rfl, by decide⟩,
    ⟨0xFF#8, 0x00FF#16, 0x0000#16, rfl, rfl, by decide⟩⟩

/-- A store into memory that is not empty. -/
theorem witness_StepKeepsMemoryCanonical : ∃ st t : State, Canonical st ∧ step st = .next t :=
  ⟨placed { at0200 with a := 0x42#8 } [] [0x8D, 0x12, 0x34], _, rfl, rfl⟩

/-- A source of exactly 65536 bytes loads. -/
theorem witness_ResetAndLoadedStatesAreCanonical : ∃ (st t : State) (source : List Byte), st.load source = .ok t := by
  have h : ¬ (List.replicate 65536 (0x00#8 : Byte)).length < 65536 := by rw [List.length_replicate]; decide
  exact ⟨State.reset, _, List.replicate 65536 0x00#8, if_neg h⟩

/-- A step that completes under parameters that are not the defaults. -/
theorem witness_StepNeverChangesParameters : ∃ st t : State, st.cfg ≠ Config.default ∧ step st = .next t :=
  ⟨placed { at0200 with cfg := { Config.default with zpIndexedWrap := false } } [] [0xEA], _, by decide, rfl⟩

/-- PLP, and a stalled step. -/
theorem witness_ResultByteOfLoadsAndPulls :
    (∃ (i : Instr) (st t : State), exec i st = .next t ∧ i.mnemonic = .plp) ∧
    (∃ st t : State, (st.read st.pc).toNat ∈ illegalBytes ∧ step st = .next t) :=
  ⟨⟨.plp, State.reset, _, rfl, rfl⟩,
    ⟨placed { at0200 with cfg := { Config.default with illegalOpcodePolicy := .stallNoOp } } [] [0x02], _, by decide, rfl⟩⟩

/-- STA is a writer of no flag, and completes. -/
theorem witness_FlagsHaveOnlyTheirWriters : ∃ (i : Instr) (st t : State), exec i st = .next t ∧
    i.mnemonic ∉ [.brk, .plp, .rti] ∧ i.mnemonic ∉ [.adc, .sbc, .bit, .clv, .plp, .rti] :=
  ⟨.staAbsolute 0xFFFF#16, w, _, rfl, by decide, by decide⟩

/-- NOP is a writer of no register and no cell, and completes. -/
theorem witness_RegistersAndMemoryHaveOnlyTheirWriters : ∃ (i : Instr) (st t : State), exec i st = .next t ∧
    i.mnemonic ∉ [.lda, .txa, .tya, .pla, .adc, .sbc, .and, .ora, .eor, .asl, .lsr, .rol, .ror] ∧
    i.mnemonic ∉ [.sta, .stx, .sty, .inc, .dec, .asl, .lsr, .rol, .ror, .pha, .php, .jsr] :=
  ⟨.nop, w, _, rfl, by decide, by decide⟩

/-- ADC under DECIMAL_POLICY = Fault with D = 0, and I different from the value given. -/
theorem witness_InterruptDisableMasksNothing : ∃ (i : Instr) (st t : State) (f : Bool),
    i.mnemonic ≠ .php ∧ exec i st = .next t ∧ f ≠ st.flagI :=
  ⟨.adcImmediate 0xFF#8, { w with cfg := { Config.default with decimalPolicy := .fault } }, _, true, by decide, rfl, by decide⟩

/-- The two sides of the range check meet at 65536: a run of two bytes from 0xFFFF, and from 0xFFFE with a cell of the
run and a cell outside it. -/
theorem witness_SetBytesWritesRunOrRejects :
    (∃ (start : Word) (values : List Byte), start.toNat + values.length > 65536) ∧
    (∃ (start : Word) (values : List Byte) (k : Nat) (a b : Word), start.toNat + values.length ≤ 65536 ∧
      start.toNat + values.length = 65536 ∧ k < values.length ∧ a.toNat = start.toNat + k ∧ b.toNat < start.toNat) ∧
    (∃ (start : Word) (values : List Byte) (b : Word), start.toNat + values.length ≤ 65536 ∧
      start.toNat + values.length ≤ b.toNat) :=
  ⟨⟨0xFFFF#16, [0x01#8, 0x02#8], by decide⟩,
    ⟨0xFFFE#16, [0x01#8, 0x02#8], 1, 0xFFFF#16, 0xFFFD#16, by decide, by decide, by decide, by decide, by decide⟩,
    ⟨0x0000#16, [0x01#8], 0x0001#16, by decide, by decide⟩⟩

/-- The two sides of the length check meet at 65536. -/
theorem witness_SaveAndLoadImages :
    (∃ source : List Byte, source.length < 65536 ∧ source.length = 65535) ∧ (∃ source : List Byte, 65536 ≤ source.length) :=
  ⟨⟨List.replicate 65535 0x00#8, by rw [List.length_replicate]; decide, by rw [List.length_replicate]⟩,
    ⟨List.replicate 65536 0x00#8, by rw [List.length_replicate]⟩⟩

end Sys2Proof.Tests
end

section
/-! PROOFS of the family 10_state: the status byte, who may write which part of the state, the parameters, and the
values at reset. -/

namespace Sys2Proof.Machine

open Sys2Proof Sys2Proof.Safety

/-! ### The status byte (R29 to R33) -/

/-- The byte of one flag holds the flag at its place and 0 at every other. -/
theorem getElem_flagBit (f : Bool) (k : Nat) {j : Nat} (hj : j < 8) : (flagBit f k)[j] = (decide (j = k) && f) := by
  obtain h | rfl | h := Nat.lt_trichotomy j k
  · simp [flagBit, h, h.ne]
  · simp [flagBit]
  · simp [flagBit, h.ne', h.not_gt, Nat.sub_ne_zero_of_lt h]

/-- Unpacking a byte gives flags whose weighted sum is the byte: the binary expansion of its number (R31, R32). -/
theorem statusNumber_flagsFromByte (st : State) (b : Byte) : statusNumber (st.flagsFromByte b) = b.toNat := by
  have hb := b.isLt
  simp only [statusNumber, num, State.flagsFromByte_flagN, State.flagsFromByte_flagV, State.flagsFromByte_flagU,
    State.flagsFromByte_flagB, State.flagsFromByte_flagD, State.flagsFromByte_flagI, State.flagsFromByte_flagZ,
    State.flagsFromByte_flagC, BitVec.getLsbD, Nat.toNat_testBit]
  omega

/-- Packing the flags and unpacking them leaves the state (R33). -/
theorem State.flagsFromByte_flagsToByte (st : State) : st.flagsFromByte st.flagsToByte = st := by
  simp [State.flagsFromByte, State.flagsToByte, getElem_flagBit]

theorem State.flagsToByte_toNat (st : State) : st.flagsToByte.toNat = statusNumber st := by
  rw [← statusNumber_flagsFromByte st, State.flagsFromByte_flagsToByte]

/-- Unpacking a byte and packing the flags gives the byte (R33). -/
theorem State.flagsToByte_flagsFromByte (st : State) (b : Byte) : (st.flagsFromByte b).flagsToByte = b := by
  apply BitVec.eq_of_toNat_eq
  rw [State.flagsToByte_toNat, statusNumber_flagsFromByte]

/-- Settles O13: the byte's number is the weighted sum of its bits, so packing is exact, and each bit of the packed byte
is its flag. -/
theorem statusByteRoundTrips : Obligations.StatusByteRoundTrips := fun st b =>
  ⟨st.flagsToByte_toNat, rfl, st.flagsToByte_flagsFromByte b, st.flagsFromByte_flagsToByte⟩

/-! ### Who may write which part of the state (R22 to R28, R53) -/

/-- The parts of the state that have a list of writers; N and Z share theirs. -/
inductive Slot where
  | a | x | y | s | cells | nz | v | u | b | d | i | c

/-- The mnemonics the spec lists as the writers of a part: the registers by R22 to R25, the flags by R27, the memory
cells by the rules of the stores, the read-modify-write forms and the pushes. -/
def Slot.writers : Slot → List Mnemonic
  | .a => [.lda, .txa, .tya, .pla, .adc, .sbc, .and, .ora, .eor, .asl, .lsr, .rol, .ror]
  | .x => [.ldx, .tax, .tsx, .inx, .dex]
  | .y => [.ldy, .tay, .iny, .dey]
  | .s => [.txs, .pha, .php, .pla, .plp, .jsr, .rts, .rti]
  | .cells => [.sta, .stx, .sty, .inc, .dec, .asl, .lsr, .rol, .ror, .pha, .php, .jsr]
  | .nz => [.lda, .ldx, .ldy, .tax, .tay, .txa, .tya, .tsx, .pla, .inx, .iny, .dex, .dey, .adc, .sbc, .and, .ora, .eor,
      .cmp, .cpx, .cpy, .bit, .asl, .lsr, .rol, .ror, .inc, .dec, .plp, .rti]
  | .v => [.adc, .sbc, .bit, .clv, .plp, .rti]
  | .u => [.plp, .rti]
  | .b => [.brk, .plp, .rti]
  | .d => [.cld, .sed, .plp, .rti]
  | .i => [.cli, .sei, .plp, .rti]
  | .c => [.adc, .sbc, .cmp, .cpx, .cpy, .asl, .lsr, .rol, .ror, .clc, .sec, .plp, .rti]

/-- Does the spec list the mnemonic as a writer of the part? -/
def Slot.writtenBy (p : Slot) (m : Mnemonic) : Bool := p.writers.contains m

/-- The value `val` of a part where the mnemonic must leave it, and `blank` where it may write it. -/
def Slot.kept {α : Type} (p : Slot) (m : Mnemonic) (blank val : α) : α := if p.writtenBy m then blank else val

theorem Slot.kept_of_not_mem {α : Type} {p : Slot} {m : Mnemonic} (h : m ∉ p.writers) (blank val : α) :
    p.kept m blank val = val :=
  if_neg (by simpa [Slot.writtenBy] using h)

/-- What a mnemonic must leave as it was: the state with the parts it may write, PC and the result byte at their values
of reset. The parameters are never hidden. -/
def State.keptBy (m : Mnemonic) (st : State) : State where
  a := Slot.a.kept m 0#8 st.a
  x := Slot.x.kept m 0#8 st.x
  y := Slot.y.kept m 0#8 st.y
  s := Slot.s.kept m 0xFF#8 st.s
  pc := 0#16
  flagN := Slot.nz.kept m false st.flagN
  flagV := Slot.v.kept m false st.flagV
  flagU := Slot.u.kept m false st.flagU
  flagB := Slot.b.kept m false st.flagB
  flagD := Slot.d.kept m false st.flagD
  flagI := Slot.i.kept m false st.flagI
  flagZ := Slot.nz.kept m false st.flagZ
  flagC := Slot.c.kept m false st.flagC
  mem := Slot.cells.kept m [] st.mem
  cfg := st.cfg
  result := none

/-- A next state, if the answer is one, agrees with `st` on everything the mnemonic must leave. -/
def WritesOnly (m : Mnemonic) (st : State) (ans : Answer) : Prop := ∀ t, ans = .next t → t.keptBy m = st.keptBy m

theorem WritesOnly.next {m : Mnemonic} {st u : State} (h : u.keptBy m = st.keptBy m) : WritesOnly m st (.next u) := by
  rintro t ⟨⟩
  exact h

theorem WritesOnly.checked {m : Mnemonic} {st u : State} {op : Byte} (h : u.keptBy m = st.keptBy m) :
    WritesOnly m st (decimalChecked op st u) := by
  intro t ht
  obtain ⟨-, -, hf⟩ | ⟨-, hn⟩ := decimalChecked_cases ht
  · cases hf
  · exact WritesOnly.next h t hn.symm

/-! What each shared effect writes, for a mnemonic that is a writer of those parts. -/

section
variable {m : Mnemonic} {st : State}

theorem loadA_writesOnly {v : Byte} {len : Word} : WritesOnly .lda st (loadA v len st) := .next rfl

theorem loadX_writesOnly {v : Byte} {len : Word} : WritesOnly .ldx st (loadX v len st) := .next rfl

theorem loadY_writesOnly {v : Byte} {len : Word} : WritesOnly .ldy st (loadY v len st) := .next rfl

theorem store_writesOnly (hcells : Slot.cells.writtenBy m) {ea : Word} {v : Byte} {len : Word} :
    WritesOnly m st (store ea v len st) :=
  .next (by simp [State.keptBy, Slot.kept, hcells])

theorem modifyCell_writesOnly (hcells : Slot.cells.writtenBy m) (hnz : Slot.nz.writtenBy m) {f : Byte → Byte}
    {ea len : Word} : WritesOnly m st (modifyCell f ea len st) :=
  .next (by simp [State.keptBy, Slot.kept, hcells, hnz])

theorem branch_writesOnly {cond : Bool} {rel : Byte} : WritesOnly m st (branch cond rel st) := .next rfl

theorem adc_writesOnly {op v : Byte} {len : Word} : WritesOnly .adc st (adc op v len st) := .checked rfl

theorem sbc_writesOnly {op v : Byte} {len : Word} : WritesOnly .sbc st (sbc op v len st) := .checked rfl

theorem logicA_writesOnly (ha : Slot.a.writtenBy m) (hnz : Slot.nz.writtenBy m) {r : Byte} {len : Word} :
    WritesOnly m st (logicA r len st) :=
  .next (by simp [State.keptBy, Slot.kept, ha, hnz])

theorem compareWith_writesOnly (hnz : Slot.nz.writtenBy m) (hc : Slot.c.writtenBy m) {reg v : Byte} {len : Word} :
    WritesOnly m st (compareWith reg v len st) :=
  .next (by simp [State.keptBy, Slot.kept, hnz, hc])

theorem bitTest_writesOnly {v : Byte} {len : Word} : WritesOnly .bit st (bitTest v len st) := .next rfl

theorem shiftA_writesOnly (ha : Slot.a.writtenBy m) (hnz : Slot.nz.writtenBy m) (hc : Slot.c.writtenBy m) {f : Shifter} :
    WritesOnly m st (shiftA f st) :=
  .next (by simp [State.keptBy, Slot.kept, ha, hnz, hc])

theorem shiftCell_writesOnly (hcells : Slot.cells.writtenBy m) (hnz : Slot.nz.writtenBy m) (hc : Slot.c.writtenBy m)
    {f : Shifter} {ea len : Word} : WritesOnly m st (shiftCell f ea len st) :=
  .next (by simp [State.keptBy, Slot.kept, hcells, hnz, hc])

theorem State.keptBy_push (hs : Slot.s.writtenBy m) (hcells : Slot.cells.writtenBy m) (v : Byte) :
    (st.push v).keptBy m = st.keptBy m := by
  simp [State.keptBy, Slot.kept, hs, hcells]

theorem State.keptBy_finish (target : Word) (res : Option Byte) : (st.finish target res).keptBy m = st.keptBy m := rfl

theorem pushAddress_writesOnly (hs : Slot.s.writtenBy m) (hcells : Slot.cells.writtenBy m) {ret target : Word} :
    WritesOnly m st (.next ((pushAddress ret st).finish target none)) :=
  .next (by rw [State.keptBy_finish, pushAddress, State.keptBy_push hs hcells, State.keptBy_push hs hcells])

end

/-- Every instruction writes only the parts its mnemonic is listed for: the memory and operand forms through their shared
effect, each of the others by itself. -/
theorem exec_writesOnly (i : Instr) (st : State) : WritesOnly i.mnemonic st (exec i st) := by
  cases i
  case ldaImmediate | ldaZeroPage | ldaZeroPageX | ldaIndexedIndirectX | ldaIndirectIndexedY | ldaAbsolute |
      ldaAbsoluteX | ldaAbsoluteY =>
    exact loadA_writesOnly
  case ldxImmediate | ldxZeroPage | ldxZeroPageY | ldxAbsolute | ldxAbsoluteY =>
    exact loadX_writesOnly
  case ldyImmediate | ldyZeroPage | ldyZeroPageX | ldyAbsolute | ldyAbsoluteX =>
    exact loadY_writesOnly
  case staZeroPage | staZeroPageX | staIndexedIndirectX | staIndirectIndexedY | staAbsolute | staAbsoluteX |
      staAbsoluteY | stxZeroPage | stxZeroPageY | stxAbsolute | styZeroPage | styZeroPageX | styAbsolute =>
    exact store_writesOnly rfl
  case incZeroPage | incZeroPageX | incAbsolute | incAbsoluteX | decZeroPage | decZeroPageX | decAbsolute |
      decAbsoluteX =>
    exact modifyCell_writesOnly rfl rfl
  case bplRelative | bmiRelative | bvcRelative | bvsRelative | bccRelative | bcsRelative | bneRelative |
      beqRelative =>
    exact branch_writesOnly
  case adcImmediate | adcZeroPage | adcZeroPageX | adcIndexedIndirectX | adcIndirectIndexedY | adcAbsolute |
      adcAbsoluteX | adcAbsoluteY =>
    exact adc_writesOnly
  case sbcImmediate | sbcZeroPage | sbcZeroPageX | sbcIndexedIndirectX | sbcIndirectIndexedY | sbcAbsolute |
      sbcAbsoluteX | sbcAbsoluteY =>
    exact sbc_writesOnly
  case andImmediate | andZeroPage | andZeroPageX | andIndexedIndirectX | andIndirectIndexedY | andAbsolute |
      andAbsoluteX | andAbsoluteY | oraImmediate | oraZeroPage | oraZeroPageX | oraIndexedIndirectX |
      oraIndirectIndexedY | oraAbsolute | oraAbsoluteX | oraAbsoluteY | eorImmediate | eorZeroPage | eorZeroPageX |
      eorIndexedIndirectX | eorIndirectIndexedY | eorAbsolute | eorAbsoluteX | eorAbsoluteY =>
    exact logicA_writesOnly rfl rfl
  case cmpImmediate | cmpZeroPage | cmpZeroPageX | cmpIndexedIndirectX | cmpIndirectIndexedY | cmpAbsolute |
      cmpAbsoluteX | cmpAbsoluteY | cpxImmediate | cpxZeroPage | cpxAbsolute | cpyImmediate | cpyZeroPage |
      cpyAbsolute =>
    exact compareWith_writesOnly rfl rfl
  case bitZeroPage | bitAbsolute =>
    exact bitTest_writesOnly
  case aslAccumulator | lsrAccumulator | rolAccumulator | rorAccumulator =>
    exact shiftA_writesOnly rfl rfl rfl
  case aslZeroPage | aslZeroPageX | aslAbsolute | aslAbsoluteX | lsrZeroPage | lsrZeroPageX | lsrAbsolute |
      lsrAbsoluteX | rolZeroPage | rolZeroPageX | rolAbsolute | rolAbsoluteX | rorZeroPage | rorZeroPageX |
      rorAbsolute | rorAbsoluteX =>
    exact shiftCell_writesOnly rfl rfl rfl
  case jsrAbsolute =>
    exact pushAddress_writesOnly rfl rfl
  case rti =>
    rw [exec_rti]
    exact .next rfl
  all_goals exact .next rfl

section
variable {i : Instr} {st t : State}

theorem exec_keptBy (h : exec i st = .next t) : t.keptBy i.mnemonic = st.keptBy i.mnemonic := exec_writesOnly i st t h

theorem exec_cfg (h : exec i st = .next t) : t.cfg = st.cfg := (congrArg State.cfg (exec_keptBy h) :)

/-- A part, read off the state by `f`, keeps its value under every mnemonic that is not one of its writers. -/
theorem exec_keeps {α : Type} (f : State → α) (p : Slot) (blank : α)
    (hf : ∀ (m : Mnemonic) (u : State), f (u.keptBy m) = p.kept m blank (f u))
    (h : exec i st = .next t) (hm : i.mnemonic ∉ p.writers) : f t = f st := by
  have hk := congrArg f (exec_keptBy h)
  rwa [hf, hf, Slot.kept_of_not_mem hm, Slot.kept_of_not_mem hm] at hk

end

/-- Settles O54: each list of the statement is the list of a part's writers. -/
theorem flagsHaveOnlyTheirWriters : Obligations.FlagsHaveOnlyTheirWriters := fun _ _ _ h =>
  ⟨fun hm =>
      ⟨exec_keeps State.flagN .nz false (fun _ _ => rfl) h hm, exec_keeps State.flagZ .nz false (fun _ _ => rfl) h hm⟩,
    exec_keeps State.flagV .v false (fun _ _ => rfl) h, exec_keeps State.flagU .u false (fun _ _ => rfl) h,
    exec_keeps State.flagB .b false (fun _ _ => rfl) h, exec_keeps State.flagD .d false (fun _ _ => rfl) h,
    exec_keeps State.flagI .i false (fun _ _ => rfl) h, exec_keeps State.flagC .c false (fun _ _ => rfl) h⟩

/-- Settles O55: each list of the statement is the list of a part's writers, and cells that are kept as a list read the
same. -/
theorem registersAndMemoryHaveOnlyTheirWriters : Obligations.RegistersAndMemoryHaveOnlyTheirWriters := fun _ _ _ h =>
  ⟨exec_keeps State.a .a 0#8 (fun _ _ => rfl) h, exec_keeps State.x .x 0#8 (fun _ _ => rfl) h,
    exec_keeps State.y .y 0#8 (fun _ _ => rfl) h, exec_keeps State.s .s 0xFF#8 (fun _ _ => rfl) h, fun hm addr =>
      congrArg (Memory.read · addr.toNat) (exec_keeps State.mem .cells [] (fun _ _ => rfl) h hm)⟩

/-! ### The parameters (R8, R34) -/

/-- A step that completes runs the decoded instruction, or stalls on an illegal opcode byte (R101, R104, R261). -/
theorem step_next_cases {st t : State} (h : step st = .next t) :
    (∃ i, decodeFetched st.fetched.1 st.fetched.2.1 st.fetched.2.2 = .ok i ∧ exec i st = .next t) ∨
      (∃ e, decodeFetched st.fetched.1 st.fetched.2.1 st.fetched.2.2 = .error e) ∧
        st.cfg.illegalOpcodePolicy = .stallNoOp ∧ t = { st with result := none } := by
  unfold step at h
  split at h
  next i hd => exact .inl ⟨i, hd, h⟩
  next e hd =>
    obtain ⟨-, hf⟩ | ⟨hp, hn⟩ := illegalOpcodeStep_cases h
    · cases hf
    · cases hn
      exact .inr ⟨⟨e, hd⟩, hp, rfl⟩

/-- Settles O49: an instruction keeps the parameters whatever it writes, and a stalled step changes only the result byte. -/
theorem stepNeverChangesParameters : Obligations.StepNeverChangesParameters := by
  intro st t h
  obtain ⟨i, -, hi⟩ | ⟨-, -, rfl⟩ := step_next_cases h
  · exact exec_cfg hi
  · rfl

/-! ### The values at reset (R36, R51, R63) -/

/-- Settles O46: reset lists no cell, placing three bytes keeps the canonical form, and an image is loaded in it. -/
theorem resetAndLoadedStatesAreCanonical : Obligations.ResetAndLoadedStatesAreCanonical :=
  ⟨rfl, fun _ _ => State.withFetched_wf rfl _ _ _, fun _ _ _ h => State.load_wf h⟩

/-- Settles O47: every value is the one the definition of `State.reset` gives, and the CPU reset starts from that state. -/
theorem resetStateValues : Obligations.ResetStateValues :=
  ⟨rfl, rfl, rfl, rfl, rfl, rfl, rfl, rfl, rfl, rfl, rfl, rfl, rfl, rfl, fun _ => rfl, fun _ => rfl⟩

end Sys2Proof.Machine
end

section
/-! PROOFS of the family 20_memory: one cell, a run of cells, the image of all cells, and the canonical form under a
step. -/

namespace Sys2Proof.Machine

open Sys2Proof Sys2Proof.Safety

/-! ### The canonical form (R50, R53, R65) -/

/-- Settles O45: a step leaves memory alone, writes one cell, or pushes twice, and a write or a push keeps the form. -/
theorem stepKeepsMemoryCanonical : Obligations.StepKeepsMemoryCanonical := by
  intro st t hst h
  unfold Canonical at hst ⊢
  obtain hmem | ⟨ea, v, hmem⟩ | ⟨v, w, hmem⟩ := step_memOutcome st t h <;> rw [hmem]
  · exact hst
  · exact State.write_wf hst ea v
  · exact State.push_wf (State.push_wf hst v) w

/-! ### One cell (R53) -/

/-- Settles O57: the laws of a read after a write, and `set_byte` updates no field but the cells. -/
theorem setByteChangesOneCell : Obligations.SetByteChangesOneCell := fun st a v =>
  ⟨st.read_write_self a v, fun _ hne => st.read_write_of_ne v hne, rfl⟩

/-! ### A run of cells (R60) -/

/-- Below 65536 the address of a cell and its number agree: nothing wraps. -/
theorem toNat_ofNat_word {n : Nat} (h : n < 65536) : (BitVec.ofNat 16 n).toNat = n := by
  rw [BitVec.toNat_ofNat, Nat.mod_eq_of_lt h]

/-- A run of writes that does not pass the end of memory leaves every cell outside the run. -/
theorem State.read_writeRun_outside (st : State) {start : Nat} {values : List Byte} (h : start + values.length ≤ 65536)
    {a : Word} (ha : a.toNat < start ∨ start + values.length ≤ a.toNat) :
    (st.writeRun start values).read a = st.read a := by
  induction values generalizing st start with
  | nil => rfl
  | cons v rest ih =>
    rw [List.length_cons] at h ha
    have hstart : (BitVec.ofNat 16 start).toNat = start := toNat_ofNat_word (by omega)
    have hne : a ≠ BitVec.ofNat 16 start := fun e => by
      rw [e, hstart] at ha
      omega
    rw [State.writeRun, ih _ (by omega) (by omega), State.read_write_of_ne _ _ hne]

/-- Each cell of a run that does not pass the end of memory reads the byte the run has for it: the first by its own
write, which the rest of the run leaves, the others by the rest of the run. -/
theorem State.read_writeRun (st : State) {start : Nat} {values : List Byte} (h : start + values.length ≤ 65536) {k : Nat}
    (hk : k < values.length) {a : Word} (ha : a.toNat = start + k) : (st.writeRun start values).read a = values[k] := by
  induction values generalizing st start k with
  | nil => cases hk
  | cons v rest ih =>
    rw [List.length_cons] at h hk
    have hstart : (BitVec.ofNat 16 start).toNat = start := toNat_ofNat_word (by omega)
    rw [State.writeRun]
    cases k with
    | zero =>
      have heq : a = BitVec.ofNat 16 start := BitVec.eq_of_toNat_eq (by rw [hstart, ha, Nat.add_zero])
      rw [State.read_writeRun_outside _ (by omega) (by omega), heq, State.read_write_self, List.getElem_cons_zero]
    | succ k => exact ih _ (by omega) (by omega) (by omega)

/-- A run of writes updates no field but the cells. -/
theorem State.writeRun_eq (st : State) (start : Nat) (values : List Byte) :
    st.writeRun start values = { st with mem := (st.writeRun start values).mem } := by
  induction values generalizing st start with
  | nil => rfl
  | cons v rest ih => exact ih (st.write (BitVec.ofNat 16 start) v) (start + 1)

/-- Settles O58: the range check decides the answer, and inside the range it is the run of writes. -/
theorem setBytesWritesRunOrRejects : Obligations.SetBytesWritesRunOrRejects := fun st start values =>
  ⟨fun h => if_pos h, fun h =>
    ⟨st.writeRun start.toNat values, if_neg (Nat.not_lt.mpr h), fun _ hk _ ha => st.read_writeRun h hk ha,
      fun _ ha => st.read_writeRun_outside h ha, st.writeRun_eq start.toNat values⟩⟩

/-! ### The image of all cells (R62, R63) -/

/-- No cell below the first of an image is listed. -/
theorem Memory.read_ofImage_of_lt {start addr : Nat} (image : List Byte) (h : addr < start) :
    (Memory.ofImage start image).read addr = 0#8 := by
  induction image generalizing start with
  | nil => rfl
  | cons v rest ih =>
    have hrest := ih (Nat.lt_succ_of_lt h)
    by_cases hv : v = 0#8
    · simpa [Memory.ofImage, hv] using hrest
    · simpa [Memory.ofImage, hv, Memory.read, h.ne'] using hrest

/-- The cells of an image read its bytes in order; a zero byte is not listed and reads 0x00 all the same. -/
theorem Memory.read_ofImage (start : Nat) {image : List Byte} {k : Nat} (hk : k < image.length) :
    (Memory.ofImage start image).read (start + k) = image[k] := by
  induction image generalizing start k with
  | nil => cases hk
  | cons v rest ih =>
    cases k with
    | zero =>
      by_cases hv : v = 0#8
      · simpa [Memory.ofImage, hv] using Memory.read_ofImage_of_lt rest (Nat.lt_succ_self start)
      · simp [Memory.ofImage, hv, Memory.read]
    | succ k =>
      have hrest := ih (start + 1) (Nat.lt_of_succ_lt_succ hk)
      rw [Nat.add_right_comm, Nat.add_assoc] at hrest
      by_cases hv : v = 0#8
      · simpa [Memory.ofImage, hv] using hrest
      · simpa [Memory.ofImage, hv, Memory.read] using hrest

theorem State.length_save (st : State) : st.save.length = 65536 := by
  rw [State.save, List.length_map, List.length_range]

/-- `save` puts cell i at offset i (R62). -/
theorem State.getElem?_save (st : State) (a : Word) : st.save[a.toNat]? = some (st.read a) := by
  rw [State.save, List.getElem?_map, List.getElem?_range a.isLt, Option.map_some, BitVec.ofNat_toNat,
    BitVec.setWidth_eq]

/-- `load` of a long enough source answers a state whose cell i is byte i of the source, and which differs in the cells
alone (R63). -/
theorem State.load_of_le (u : State) {source : List Byte} (h : 65536 ≤ source.length) :
    ∃ t, u.load source = .ok t ∧ (∀ a : Word, source[a.toNat]? = some (t.read a)) ∧ t = { u with mem := t.mem } := by
  refine ⟨_, if_neg (Nat.not_lt.mpr h), fun a => ?_, rfl⟩
  have ha := a.isLt
  have hk : a.toNat < (source.take 65536).length := by
    rw [List.length_take]
    omega
  have hread := Memory.read_ofImage 0 hk
  rw [Nat.zero_add, List.getElem_take] at hread
  rw [State.read, hread, List.getElem?_eq_getElem]

/-- Settles O59: `load` gives back the bytes of its source, and `save` is a source whose bytes are the cells. -/
theorem saveAndLoadImages : Obligations.SaveAndLoadImages := by
  intro st u
  refine ⟨st.length_save, st.getElem?_save, ?_, fun source h => if_pos h, fun source h => u.load_of_le h⟩
  obtain ⟨t, hload, hbytes, -⟩ := u.load_of_le st.length_save.ge
  exact ⟨t, hload, fun a => Option.some.inj ((hbytes a).symm.trans (st.getElem?_save a))⟩

end Sys2Proof.Machine
end

section
/-! PROOFS of the family 30_encoding: the decoder and the encoder hold one opcode map, so each is the inverse of the
other, and a step runs the instruction whose encoding stands at PC. -/

namespace Sys2Proof

open Sys2Proof.Machine Sys2Proof.Safety

/-! ### What a table entry builds (R81, R82) -/

/-- The operand bytes a table entry takes, and the instruction it builds from them; a 16-bit operand has its high byte
first, and an illegal entry builds nothing (R81, R82, R86). -/
inductive Entry.Builds : Entry → List Byte → Instr → Prop where
  | plain (i : Instr) : Entry.Builds (.plain i) [] i
  | byte (f : Byte → Instr) (v : Byte) : Entry.Builds (.byte f) [v] (f v)
  | addr (f : Word → Instr) (v : Word) : Entry.Builds (.addr f) [hiByte v, loByte v] (f v)

section
variable {e : Entry} {ops : List Byte} {i : Instr}

theorem Entry.Builds.length_le (h : e.Builds ops i) : ops.length ≤ 2 := by
  cases h <;> simp

/-- Any two bytes stand for the operand bytes of an address. -/
theorem Entry.builds_makeAddress (f : Word → Instr) (b1 b2 : Byte) :
    (Entry.addr f).Builds [b1, b2] (f (makeAddress b1 b2)) := by
  simpa using Entry.Builds.addr f (makeAddress b1 b2)

/-- An entry that builds an instruction builds one from the head of any two bytes. -/
theorem Entry.Builds.of_two_bytes (h : e.Builds ops i) (b1 b2 : Byte) :
    ∃ ops' rest j, e.Builds ops' j ∧ [b1, b2] = ops' ++ rest := by
  cases h with
  | plain i => exact ⟨[], [b1, b2], i, .plain i, rfl⟩
  | byte f _ => exact ⟨[b1], [b2], f b1, .byte f b1, rfl⟩
  | addr f _ => exact ⟨[b1, b2], [], _, Entry.builds_makeAddress f b1 b2, rfl⟩

end

/-- The decoder answers the instruction that the entry of the first byte builds from the bytes after it. -/
theorem decode_eq_ok_iff {bytes rest : List Byte} {i : Instr} :
    decode bytes = .ok (i, rest) ↔ ∃ op ops, (entryOf op).Builds ops i ∧ bytes = op :: ops ++ rest := by
  constructor
  · intro h
    unfold decode at h
    split at h
    · cases h
    next op _ =>
      refine ⟨op, ?_⟩
      generalize entryOf op = e at h
      split at h
      · cases h
      · cases h
        exact ⟨[], .plain i, rfl⟩
      · split at h <;> cases h
        exact ⟨_, .byte _ _, rfl⟩
      · split at h <;> cases h
        exact ⟨_, Entry.builds_makeAddress _ _ _, rfl⟩
  · rintro ⟨op, ops, hb, rfl⟩
    generalize he : entryOf op = e at hb
    cases hb <;> simp [decode, he]

/-! ### The table against the encoder (R83 to R86) -/

/-- The entry of an instruction's opcode byte builds it from its operand bytes, by the constructor of its length. -/
theorem entryOf_opcode_builds (i : Instr) : (entryOf i.opcode).Builds i.operandBytes i := by
  cases i
  all_goals
    simp only [Instr.opcode]
    constructor

/-- Whatever the entry of an instruction's opcode byte builds has that opcode byte and the operand bytes it is built
from: the entry holds one form, of every operand. -/
theorem encode_of_opcode_builds (j : Instr) {ops : List Byte} {i : Instr} (h : (entryOf j.opcode).Builds ops i) :
    encode i = j.opcode :: ops := by
  cases j
  all_goals
    simp only [Instr.opcode] at h
    cases h
    rfl

/-- The 105 bytes of R86 have no table entry. -/
theorem entryOf_eq_illegal {op : Byte} (h : op.toNat ∈ illegalBytes) : entryOf op = .illegal := by
  have hmap : opcodeMap op = none := by
    revert op
    decide
  unfold opcodeMap at hmap
  split at hmap
  · assumption
  all_goals cases hmap

/-- Every other byte is the opcode byte of an instruction, such as the one the decoder answers before zero bytes. -/
theorem exists_opcode_eq {op : Byte} (h : op.toNat ∉ illegalBytes) : ∃ j : Instr, j.opcode = op := by
  have hzero : (decodeFetched op 0#8 0#8).toOption.map Instr.opcode = some op := by
    revert op
    decide
  obtain ⟨j, -, hj⟩ := Option.map_eq_some_iff.mp hzero
  exact ⟨j, hj⟩

/-- The encoder inverts every table entry. -/
theorem encode_of_builds {op : Byte} {ops : List Byte} {i : Instr} (h : (entryOf op).Builds ops i) :
    encode i = op :: ops := by
  by_cases hop : op.toNat ∈ illegalBytes
  · rw [entryOf_eq_illegal hop] at h
    cases h
  · obtain ⟨j, rfl⟩ := exists_opcode_eq hop
    exact encode_of_opcode_builds j h

/-! ### The round trips (R80 to R86) -/

theorem decode_encode_append (i : Instr) (rest : List Byte) : decode (encode i ++ rest) = .ok (i, rest) :=
  decode_eq_ok_iff.mpr ⟨i.opcode, i.operandBytes, entryOf_opcode_builds i, rfl⟩

/-- Settles O38: the entry of the opcode byte builds the instruction from its operand bytes, whatever follows. -/
theorem decodeOfEncodeIsIdentity : Obligations.DecodeOfEncodeIsIdentity := fun i rest _ => decode_encode_append i rest

/-- Settles O39: what decodes is built by the entry of its first byte, and the encoder inverts every entry. -/
theorem encodeOfDecodeIsIdentity : Obligations.EncodeOfDecodeIsIdentity := by
  intro bytes rest i h
  obtain ⟨op, ops, hb, rfl⟩ := decode_eq_ok_iff.mp h
  rw [encode_of_builds hb]

theorem decodeFetched_of_decode {op b1 b2 : Byte} {i : Instr} {rest : List Byte}
    (h : decode [op, b1, b2] = .ok (i, rest)) : decodeFetched op b1 b2 = .ok i := by
  rw [decodeFetched, h]

theorem decodeFetched_of_illegal {op : Byte} (h : op.toNat ∈ illegalBytes) (b1 b2 : Byte) :
    decodeFetched op b1 b2 = .error (.illegalOpcode op) := by
  simp [decodeFetched, decode, entryOf_eq_illegal h]

/-- `Instr` has a constructor for the pairs of the opcode map only (R85). -/
theorem Instr.wellFormed_eq_true (i : Instr) : i.wellFormed = true := by
  cases i <;> rfl

/-- A legal byte decodes before any two bytes, to an instruction of that opcode byte. -/
theorem exists_decodeFetched_eq_ok {op : Byte} (h : op.toNat ∉ illegalBytes) (b1 b2 : Byte) :
    ∃ i, decodeFetched op b1 b2 = .ok i ∧ i.opcode = op := by
  obtain ⟨j, hj⟩ := exists_opcode_eq h
  obtain ⟨ops, rest, i, hb, hbytes⟩ := (entryOf_opcode_builds j).of_two_bytes b1 b2
  rw [hj] at hb
  have hd : decode [op, b1, b2] = .ok (i, rest) := decode_eq_ok_iff.mpr ⟨op, ops, hb, congrArg (op :: ·) hbytes⟩
  exact ⟨i, decodeFetched_of_decode hd, (List.cons.inj (encode_of_builds hb)).1⟩

/-- Settles O35: the entry of a legal byte builds an instruction, which has that opcode byte, from any bytes; a byte of
R86 has no entry. -/
theorem everyOtherByteDecodes : Obligations.EveryOtherByteDecodes := by
  intro op b1 b2
  refine ⟨fun h => ?_, fun h => decodeFetched_of_illegal h b1 b2⟩
  obtain ⟨i, hd, hop⟩ := exists_decodeFetched_eq_ok h b1 b2
  exact ⟨i, hd, hop, i.wellFormed_eq_true⟩

/-- Settles O32: each byte sequence is the encoding of its instruction. -/
theorem writtenOutWordsDecode : Obligations.WrittenOutWordsDecode :=
  ⟨decode_encode_append (.ldaImmediate 0x11#8) [], decode_encode_append (.jmpAbsolute 0xAA55#16) [],
    decode_encode_append (.ldaAbsolute 0x1234#16) [], decode_encode_append (.stxZeroPageY 0xF0#8) [],
    decode_encode_append .txs [], decode_encode_append (.incAbsoluteX 0x1234#16) [], decode_encode_append .plp [],
    decode_encode_append (.beqRelative 0xFE#8) [], decode_encode_append (.adcIndirectIndexedY 0x40#8) [],
    decode_encode_append .rorAccumulator [], decode_encode_append .clv []⟩

/-! ### The encoding at PC (R100, R101, R103) -/

theorem length_encode_le (i : Instr) : (encode i).length ≤ 3 :=
  Nat.succ_le_succ (entryOf_opcode_builds i).length_le

/-- The three bytes a step fetches begin with any encoding that the cells from PC on hold. -/
theorem encode_isPrefix_fetched {st : State} {i : Instr}
    (h : ∀ (k : Nat) (hk : k < (encode i).length), st.read (st.pc + BitVec.ofNat 16 k) = (encode i)[k]) :
    encode i <+: [st.fetched.1, st.fetched.2.1, st.fetched.2.2] := by
  have hlen := length_encode_le i
  refine List.prefix_iff_getElem.mpr ⟨hlen, fun k hk => ?_⟩
  rw [← h k hk]
  have hk3 : k < 3 := by omega
  interval_cases k
  · exact congrArg st.read (BitVec.add_zero st.pc)
  · rfl
  · rfl

theorem step_of_decodeFetched {st : State} {i : Instr}
    (h : decodeFetched st.fetched.1 st.fetched.2.1 st.fetched.2.2 = .ok i) : step st = exec i st := by
  rw [step, h]

/-- Settles O37: the fetched bytes are the encoding and some bytes after it, so they decode to the instruction. -/
theorem stepRunsEncodedBytes : Obligations.StepRunsEncodedBytes := by
  intro st i h
  obtain ⟨rest, hrest⟩ := encode_isPrefix_fetched h
  have hd := decode_encode_append i rest
  rw [hrest] at hd
  exact step_of_decodeFetched (decodeFetched_of_decode hd)

end Sys2Proof
end

section
/-! PROOFS of the family 40_engine: the effective addresses as numbers, the instruction a step runs, the outcomes of a
step, and how an instruction ends: PC and the result byte. -/

namespace Sys2Proof.Machine

open Sys2Proof Sys2Proof.Safety

/-! ### Which mnemonics have a mode (R85, R103) -/

theorem mode_mem_modes (i : Instr) : i.mode ∈ i.mnemonic.modes := by
  have hwf := i.wellFormed_eq_true
  rwa [Instr.wellFormed, Pairing.wellFormed, List.contains_iff_mem] at hwf

theorem zeroPageY_mem_modes {m : Mnemonic} : Mode.zeroPageY ∈ m.modes → m = .ldx ∨ m = .stx := by
  cases m <;> decide

theorem indirect_mem_modes {m : Mnemonic} : Mode.indirect ∈ m.modes → m = .jmp := by
  cases m <;> decide

/-! ### The indexed and absolute addresses (R108 to R112) -/

/-- The zero-page index sum as a number; without the wrap it stays below 65536. -/
theorem zeroPageSum_toNat (cfg : Config) (zp idx : Byte) : (zeroPageSum cfg zp idx).toNat =
    if cfg.zpIndexedWrap then (zp.toNat + idx.toNat) % 256 else zp.toNat + idx.toNat := by
  unfold zeroPageSum
  split
  · rw [zext16_toNat, BitVec.toNat_add]
  · rw [BitVec.toNat_add, zext16_toNat, zext16_toNat]
    omega

/-- Settles O41: both indexed forms are the zero-page index sum, and the opcode map pairs ZeroPageY with LDX and STX
only. -/
theorem zeroPageAddresses : Obligations.ZeroPageAddresses :=
  ⟨fun i h => zeroPageY_mem_modes (h ▸ mode_mem_modes i), fun st zp =>
    ⟨zext16_toNat zp, zeroPageSum_toNat st.cfg zp st.x, zeroPageSum_toNat st.cfg zp st.y⟩⟩

theorem makeAddress_add_zext16_toNat (b1 b2 idx : Byte) :
    (makeAddress b1 b2 + zext16 idx).toNat = (256 * b1.toNat + b2.toNat + idx.toNat) % 65536 := by
  rw [BitVec.toNat_add, makeAddress_toNat, zext16_toNat, Nat.mul_comm]

/-- Settles O42: the operand is the number of its two bytes, high byte first, and an indexed form adds to it. -/
theorem absoluteAddresses : Obligations.AbsoluteAddresses := fun st b1 b2 =>
  ⟨by rw [eaAbsolute, makeAddress_toNat, Nat.mul_comm], makeAddress_add_zext16_toNat b1 b2 st.x,
    makeAddress_add_zext16_toNat b1 b2 st.y⟩

/-! ### Pointers held in memory (R113 to R116) -/

theorem readPtr_toNat (st : State) (a0 a1 : Word) : (readPtr st a0 a1).toNat = pointerNumber st a0 a1 := by
  unfold readPtr pointerNumber
  cases st.cfg.ptrOrder <;> exact makeAddress_toNat _ _

theorem ptrSuccessor_toNat (cfg : Config) (ptr : Word) : (ptrSuccessor cfg ptr).toNat =
    if cfg.jmpIndPageWrap then ptr.toNat / 256 * 256 + (ptr.toNat % 256 + 1) % 256 else (ptr.toNat + 1) % 65536 := by
  unfold ptrSuccessor
  split
  · rw [makeAddress_toNat, hiByte_toNat, BitVec.toNat_add, loByte_toNat]
    rfl
  · rw [BitVec.toNat_add]
    rfl

/-- Settles O43: the second cell is the pointer's successor, and only JMP is paired with the Indirect mode. -/
theorem indirectPointerAddresses : Obligations.IndirectPointerAddresses := by
  refine ⟨fun i h => indirect_mem_modes (h ▸ mode_mem_modes i), fun st ptr succ hsucc => ?_⟩
  obtain rfl : succ = ptrSuccessor st.cfg ptr :=
    BitVec.eq_of_toNat_eq (hsucc.trans (ptrSuccessor_toNat st.cfg ptr).symm)
  exact ⟨readPtr_toNat st ptr _, readPtr_toNat st ptr _⟩

/-- A page-0 pointer is the number of the cells at `p` and, modulo 256, `p + 1`. -/
theorem zeroPagePtr_toNat (st : State) {p : Byte} {first second : Word} (hfirst : first.toNat = p.toNat)
    (hsecond : second.toNat = (p.toNat + 1) % 256) : (zeroPagePtr st p).toNat = pointerNumber st first second := by
  obtain rfl : first = zext16 p := BitVec.eq_of_toNat_eq (hfirst.trans (zext16_toNat p).symm)
  obtain rfl : second = zext16 (p + 1#8) := BitVec.eq_of_toNat_eq (by rw [hsecond, zext16_toNat, BitVec.toNat_add]; rfl)
  exact readPtr_toNat st _ _

/-- Settles O44: both modes read a page-0 pointer, the first at the sum with X, and the second adds Y to it. -/
theorem zeroPagePointerAddresses : Obligations.ZeroPagePointerAddresses := by
  refine fun st zp first second => ⟨fun hfirst hsecond => ?_, fun hfirst hsecond => ?_⟩
  · have hp : (zp + st.x).toNat = (zp.toNat + st.x.toNat) % 256 := BitVec.toNat_add zp st.x
    exact zeroPagePtr_toNat st (hfirst.trans hp.symm) (by rw [hsecond, hp, Nat.mod_add_mod])
  · rw [eaIndirectIndexedY, BitVec.toNat_add, zeroPagePtr_toNat st hfirst hsecond, zext16_toNat]

/-! ### The instruction a step runs (R100 to R104) -/

/-- Settles O36: it is the decoder's answer that selects the instruction. -/
theorem stepRunsDecodedInstruction : Obligations.StepRunsDecodedInstruction := fun _ _ h _ => step_of_decodeFetched h

theorem step_of_decodeFetched_error {st : State} {e : DecodeError}
    (h : decodeFetched st.fetched.1 st.fetched.2.1 st.fetched.2.2 = .error e) :
    step st = illegalOpcodeStep (st.read st.pc) st := by
  rw [step, h]
  rfl

/-- The instruction a step runs has the fetched opcode byte. -/
theorem opcode_of_decodeFetched {op b1 b2 : Byte} {i : Instr} (h : decodeFetched op b1 b2 = .ok i) : i.opcode = op := by
  by_cases hop : op.toNat ∈ illegalBytes
  · rw [decodeFetched_of_illegal hop] at h
    cases h
  · obtain ⟨j, hj, hopcode⟩ := exists_decodeFetched_eq_ok hop b1 b2
    cases h.symm.trans hj
    exact hopcode

/-! ### The outcomes of a step (R118, R260, R262) -/

/-- Does the mnemonic make the decimal check (R200)? -/
def checksDecimal (m : Mnemonic) : Bool := [.adc, .sbc].contains m

/-- What an instruction can answer: ADC and SBC pass the decimal check with their own opcode byte first, and every other
instruction completes. -/
theorem exec_cases (i : Instr) (st : State) :
    (checksDecimal i.mnemonic = true ∧ ∃ done, exec i st = decimalChecked i.opcode st done) ∨
      (checksDecimal i.mnemonic = false ∧ ∃ t, exec i st = .next t) := by
  cases i
  case adcImmediate | adcZeroPage | adcZeroPageX | adcIndexedIndirectX | adcIndirectIndexedY | adcAbsolute |
      adcAbsoluteX | adcAbsoluteY | sbcImmediate | sbcZeroPage | sbcZeroPageX | sbcIndexedIndirectX |
      sbcIndirectIndexedY | sbcAbsolute | sbcAbsoluteX | sbcAbsoluteY =>
    exact .inl ⟨rfl, _, rfl⟩
  all_goals exact .inr ⟨rfl, _, rfl⟩

/-- Settles O53: a decoded instruction completes or fails the decimal check with the opcode byte at PC, and the
illegal-opcode path faults or completes. -/
theorem stepHasThreeOutcomes : Obligations.StepHasThreeOutcomes := by
  intro st
  cases hd : decodeFetched st.fetched.1 st.fetched.2.1 st.fetched.2.2 with
  | ok i =>
    have hop : i.opcode = st.read st.pc := opcode_of_decodeFetched hd
    rw [step_of_decodeFetched hd]
    obtain ⟨-, done, hexec⟩ | ⟨-, hnext⟩ := exec_cases i st
    · rw [hexec, hop]
      obtain ⟨-, -, hfault⟩ | ⟨-, hnext⟩ := decimalChecked_cases (rfl : decimalChecked (st.read st.pc) st done = _)
      · exact .inr (.inr hfault)
      · exact .inl ⟨done, hnext⟩
    · exact .inl hnext
  | error e =>
    rw [step_of_decodeFetched_error hd]
    obtain ⟨-, hfault⟩ | ⟨-, hnext⟩ := illegalOpcodeStep_cases (rfl : illegalOpcodeStep (st.read st.pc) st = _)
    · exact .inr (.inl hfault)
    · exact .inl ⟨_, hnext⟩

/-! ### How an instruction ends: PC and the result byte (R102, R119) -/

/-- The mnemonics that transfer control; every other advances PC by its length (R102). -/
def controlTransfers : List Mnemonic := [.jmp, .jsr, .rts, .rti, .bpl, .bmi, .bvc, .bvs, .bcc, .bcs, .bne, .beq]

/-- The result byte of a mnemonic that ends in state `t`: the byte a load or a pull put into its register or the flags
(R119). -/
def resultByte (m : Mnemonic) (t : State) : Option Byte :=
  match m with
  | .lda => some t.a
  | .ldx => some t.x
  | .ldy => some t.y
  | .pla => some t.a
  | .plp => some t.flagsToByte
  | _ => none

/-- The end of an instruction in state `t`: where PC is, unless it transfers control, and which byte it returns. -/
structure EndsIn (i : Instr) (st t : State) : Prop where
  pc_eq : i.mnemonic ∉ controlTransfers → t.pc = st.pc + BitVec.ofNat 16 i.length
  result_eq : t.result = resultByte i.mnemonic t

/-- PLP returns the pulled byte, which is the status byte it leaves (R33, R176). -/
theorem exec_plp_endsIn {st t : State} (h : exec .plp st = .next t) : EndsIn .plp st t := by
  rw [exec_plp] at h
  cases h
  exact ⟨fun _ => rfl, congrArg some (State.flagsToByte_flagsFromByte { st with s := st.s + 1#8 } _).symm⟩

/-- Every instruction that completes ends as R102 and R119 say: ADC and SBC after their decimal check, a control transfer
with no byte and a PC of its own, PLP through the round trip of the status byte, and the others by the `finish` or
`advance` that ends their meaning. -/
theorem exec_endsIn {i : Instr} {st t : State} (h : exec i st = .next t) : EndsIn i st t := by
  cases i
  case adcImmediate | adcZeroPage | adcZeroPageX | adcIndexedIndirectX | adcIndirectIndexedY | adcAbsolute |
      adcAbsoluteX | adcAbsoluteY | sbcImmediate | sbcZeroPage | sbcZeroPageX | sbcIndexedIndirectX |
      sbcIndirectIndexedY | sbcAbsolute | sbcAbsoluteX | sbcAbsoluteY =>
    obtain ⟨-, -, hfault⟩ | ⟨-, hnext⟩ := decimalChecked_cases h
    · cases hfault
    · cases hnext
      exact ⟨fun _ => rfl, rfl⟩
  case jmpAbsolute | jmpIndirect | jsrAbsolute | rts | rti | bplRelative | bmiRelative | bvcRelative | bvsRelative |
      bccRelative | bcsRelative | bneRelative | beqRelative =>
    cases h
    exact ⟨fun hm => absurd (List.contains_iff_mem.mp rfl) hm, rfl⟩
  case plp => exact exec_plp_endsIn h
  all_goals
    cases h
    exact ⟨fun _ => rfl, rfl⟩

/-- Settles O40: the list of the statement is the list of the control transfers. -/
theorem sequentialInstructionsAdvanceByLength : Obligations.SequentialInstructionsAdvanceByLength :=
  fun _ _ _ hm h => (exec_endsIn h).pc_eq hm

/-- Settles O50: an instruction ends with the byte of its mnemonic, and a byte of R86 takes the illegal-opcode path,
which completes with none. -/
theorem resultByteOfLoadsAndPulls : Obligations.ResultByteOfLoadsAndPulls := by
  refine ⟨fun i st t h => (exec_endsIn h).result_eq, fun st t hop h => ?_⟩
  rw [step_of_decodeFetched_error (decodeFetched_of_illegal hop _ _)] at h
  obtain ⟨-, hfault⟩ | ⟨-, hnext⟩ := illegalOpcodeStep_cases h
  · cases hfault
  · cases hnext
    rfl

/-! ### The result byte is an output (R119, R35) -/

/-- Every instruction writes the result byte and none reads it. -/
theorem exec_of_result (i : Instr) (st : State) (r : Option Byte) : exec i { st with result := r } = exec i st := by
  cases i <;> rfl

/-- Settles O51: neither the fetch, nor the decoded instruction, nor the illegal-opcode path reads the field. -/
theorem resultByteIsNeverRead : Obligations.ResultByteIsNeverRead := by
  intro st r
  have hfetched : { st with result := r }.fetched = st.fetched := rfl
  rw [step, step, hfetched]
  cases decodeFetched st.fetched.1 st.fetched.2.1 st.fetched.2.2 with
  | ok i => exact exec_of_result i st r
  | error _ => rfl

end Sys2Proof.Machine
end

section
/-! PROOFS of the family 41_load_store: each form of a load is the load's shared effect on its operand, and each form of a
store is one write at its effective address. -/

namespace Sys2Proof.Machine

open Sys2Proof Sys2Proof.Safety

/-! ### Loads (R140 to R142) -/

/-- Settles O1: every form is LDA's effect on the operand of the form, the byte itself or the cell at its address. -/
theorem ldaLoadsAccumulator : Obligations.LdaLoadsAccumulator := by
  rintro st i op len ea m (⟨rfl, rfl, rfl⟩ | ⟨rfl, h | h | h | h | h | h | h⟩)
  · exact ⟨rfl, loadA_eq st _ _⟩
  all_goals
    obtain ⟨_, rfl, rfl, rfl, rfl⟩ := h
    exact ⟨rfl, loadA_eq st _ _⟩

/-- Settles O2: every form is LDX's or LDY's effect on the operand of the form. -/
theorem ldxAndLdyLoadIndex : Obligations.LdxAndLdyLoadIndex := by
  constructor
  · rintro st i op len ea m (⟨rfl, rfl, rfl⟩ | ⟨rfl, h | h | h | h⟩)
    · exact ⟨rfl, loadX_eq st _ _⟩
    all_goals
      obtain ⟨_, rfl, rfl, rfl, rfl⟩ := h
      exact ⟨rfl, loadX_eq st _ _⟩
  · rintro st i op len ea m (⟨rfl, rfl, rfl⟩ | ⟨rfl, h | h | h | h⟩)
    · exact ⟨rfl, loadY_eq st _ _⟩
    all_goals
      obtain ⟨_, rfl, rfl, rfl, rfl⟩ := h
      exact ⟨rfl, loadY_eq st _ _⟩

/-! ### Stores (R117, R143 to R145) -/

/-- A store completes: its cell reads the stored byte, every other cell reads as before, and beside memory only PC and the
result byte are written. -/
theorem store_writes_one_cell (st : State) (ea : Word) (v : Byte) (len : Word) :
    ∃ t, store ea v len st = .next t ∧ t.read ea = v ∧ SameMemoryExcept ea st t ∧
      t = { st with mem := t.mem, pc := st.pc + len, result := none } :=
  ⟨(st.write ea v).advance len, rfl, st.read_write_self ea v, fun _ hne => st.read_write_of_ne v hne, rfl⟩

/-- Settles O3: every form stores A at the effective address of the form. -/
theorem staStoresAccumulator : Obligations.StaStoresAccumulator := by
  rintro st i op len ea (h | h | h | h | h | h | h)
  all_goals
    obtain ⟨_, rfl, rfl, rfl, rfl⟩ := h
    exact ⟨rfl, store_writes_one_cell st _ st.a _⟩

/-- Settles O4: every form stores X or Y at the effective address of the form. -/
theorem stxAndStyStoreIndex : Obligations.StxAndStyStoreIndex := by
  constructor
  · rintro st i op len ea (h | h | h)
    all_goals
      obtain ⟨_, rfl, rfl, rfl, rfl⟩ := h
      exact ⟨rfl, store_writes_one_cell st _ st.x _⟩
  · rintro st i op len ea (h | h | h)
    all_goals
      obtain ⟨_, rfl, rfl, rfl, rfl⟩ := h
      exact ⟨rfl, store_writes_one_cell st _ st.y _⟩

end Sys2Proof.Machine
end

section
/-! PROOFS of the family 42_transfer: a transfer copies a register and, but for TXS, takes N and Z from the copied byte. -/

namespace Sys2Proof.Machine

open Sys2Proof Sys2Proof.Safety

/-- The load-like update and the advance write N, Z, PC and the result byte, and no other field (R13, R102, R119). -/
theorem State.setNZ_advance (st : State) (v : Byte) (len : Word) : (st.setNZ v).advance len = { st with
    flagN := v.getLsbD 7, flagZ := decide (v = 0#8), pc := st.pc + len, result := none } := rfl

/-- Settles O5: each transfer is a copy into one register, followed by the load-like update from the copied byte and an
advance by 1. -/
theorem transfersCopyAndSetFlags : Obligations.TransfersCopyAndSetFlags := by
  intro st
  refine ⟨⟨rfl, ?tax⟩, ⟨rfl, ?txa⟩, ⟨rfl, ?tay⟩, ⟨rfl, ?tya⟩, ⟨rfl, ?tsx⟩⟩
  case tax => exact congrArg Host.Outcome.next (State.setNZ_advance { st with x := st.a } st.a 1#16)
  case txa => exact congrArg Host.Outcome.next (State.setNZ_advance { st with a := st.x } st.x 1#16)
  case tay => exact congrArg Host.Outcome.next (State.setNZ_advance { st with y := st.a } st.a 1#16)
  case tya => exact congrArg Host.Outcome.next (State.setNZ_advance { st with a := st.y } st.y 1#16)
  case tsx => exact congrArg Host.Outcome.next (State.setNZ_advance { st with x := st.s } st.s 1#16)

/-- Settles O6: TXS copies X into S and advances by 1, and the view of the stack pointer is S in page 1. -/
theorem txsWritesStackPointerOnly : Obligations.TxsWritesStackPointerOnly := fun st =>
  ⟨rfl, { st with s := st.x }.advance 1#16, rfl, rfl, State.sp_toNat _⟩

end Sys2Proof.Machine
end

section
/-! PROOFS of the family 43_inc_dec: a count by 1 modulo 256, and N and Z from the result, of an index register or of the
one cell an INC or DEC addresses. -/

namespace Sys2Proof.Machine

open Sys2Proof Sys2Proof.Safety

/-! ### Counting, and N and Z, as numbers (R13, R160 to R165) -/

theorem incOf_toNat (v : Byte) : (incOf v).toNat = (v.toNat + 1) % 256 := BitVec.toNat_add v 1#8

theorem decOf_toNat (v : Byte) : (decOf v).toNat = (v.toNat + 255) % 256 := by
  rw [decOf, BitVec.toNat_sub, Nat.add_comm]
  rfl

theorem State.setNZ_flagN_eq_decide (st : State) (v : Byte) : (st.setNZ v).flagN = decide (128 ≤ v.toNat) :=
  (BitVec.msb_eq_getLsbD_last v).symm.trans (BitVec.msb_eq_decide v)

theorem State.setNZ_flagZ_eq_decide (st : State) (v : Byte) : (st.setNZ v).flagZ = decide (v.toNat = 0) :=
  decide_eq_decide.mpr BitVec.toNat_inj.symm

/-! ### Index registers (R160 to R163) -/

/-- Settles O7: each counts one index register, takes N and Z from the new value by the load-like update, and advances
by 1. -/
theorem indexIncrementAndDecrementWrap : Obligations.IndexIncrementAndDecrementWrap := by
  intro st
  have flagN := State.setNZ_flagN_eq_decide st
  have flagZ := State.setNZ_flagZ_eq_decide st
  refine ⟨⟨rfl, _, rfl, ?inx⟩, ⟨rfl, _, rfl, ?iny⟩, ⟨rfl, _, rfl, ?dex⟩, ⟨rfl, _, rfl, ?dey⟩⟩
  case inx => exact ⟨incOf_toNat st.x, flagN _, flagZ _, rfl⟩
  case iny => exact ⟨incOf_toNat st.y, flagN _, flagZ _, rfl⟩
  case dex => exact ⟨decOf_toNat st.x, flagN _, flagZ _, rfl⟩
  case dey => exact ⟨decOf_toNat st.y, flagN _, flagZ _, rfl⟩

/-! ### Cells (R164, R165) -/

/-- INC and DEC complete: the cell reads the new value, every other cell reads as before, N and Z come from the new value,
and beside these only PC and the result byte are written. -/
theorem modifyCell_writes_one_cell (st : State) (f : Byte → Byte) (ea len : Word) :
    ∃ t, modifyCell f ea len st = .next t ∧ t.read ea = f (st.read ea) ∧ SameMemoryExcept ea st t ∧
      t.flagN = (t.read ea).getLsbD 7 ∧ t.flagZ = decide (t.read ea = 0#8) ∧
      t = { st with mem := t.mem, flagN := t.flagN, flagZ := t.flagZ, pc := st.pc + len, result := none } := by
  have hcell := st.read_write_self ea (f (st.read ea))
  refine ⟨_, modifyCell_eq st f ea len, hcell, fun _ hne => st.read_write_of_ne _ hne, ?flagN, ?flagZ, rfl⟩
  case flagN => exact congrArg (·.getLsbD 7) hcell.symm
  case flagZ => exact congrArg (· == 0#8) hcell.symm

/-- Settles O8: every form counts the cell at the effective address of the form. -/
theorem incAndDecModifyOneCell : Obligations.IncAndDecModifyOneCell := by
  constructor
  · rintro st i op len ea (h | h | h | h)
    all_goals
      obtain ⟨_, rfl, rfl, rfl, rfl⟩ := h
      obtain ⟨t, hexec, hcell, hrest⟩ := modifyCell_writes_one_cell st incOf _ _
      exact ⟨rfl, t, hexec, (congrArg BitVec.toNat hcell).trans (incOf_toNat _), hrest⟩
  · rintro st i op len ea (h | h | h | h)
    all_goals
      obtain ⟨_, rfl, rfl, rfl, rfl⟩ := h
      obtain ⟨t, hexec, hcell, hrest⟩ := modifyCell_writes_one_cell st decOf _ _
      exact ⟨rfl, t, hexec, (congrArg BitVec.toNat hcell).trans (decOf_toNat _), hrest⟩

end Sys2Proof.Machine
end

section
/-! PROOFS of the family 44_stack: a push writes the cell that the next pull reads, and pulls undo pushes in reverse
order. -/

namespace Sys2Proof.Machine

open Sys2Proof Sys2Proof.Safety

/-! ### Push and Pull (R170, R171) -/

/-- Settles O9: the cell given by its number is the one Push writes or Pull reads, and each counts S by 1. -/
theorem pushAndPullUsePageOne : Obligations.PushAndPullUsePageOne := by
  refine ⟨fun st v sp hsp => ?push, fun st sp hsp => ?pull⟩
  case push =>
    obtain rfl : sp = st.sp := BitVec.eq_of_toNat_eq (hsp.trans st.sp_toNat.symm)
    exact ⟨st.read_push_self v, fun _ hne => st.read_push_of_ne v hne, decOf_toNat st.s, rfl⟩
  case pull =>
    have hs : st.popped.s.toNat = (st.s.toNat + 1) % 256 := incOf_toNat st.s
    obtain rfl : sp = st.popped.sp := BitVec.eq_of_toNat_eq (by rw [hsp, State.sp_toNat, hs])
    exact ⟨rfl, hs, rfl⟩

/-- The cell that a pull reads right after a push holds the pushed byte. -/
theorem State.read_push_next_pulled (st : State) (v : Byte) :
    (st.push v).read (stackCell ((st.push v).s + 1#8)) = v := by
  rw [State.push_s, BitVec.sub_add_cancel]
  exact st.read_push_self v

/-- A push leaves every stack cell but the one at S. -/
theorem State.read_push_stackCell_of_ne (st : State) (v : Byte) {b : Byte} (h : b ≠ st.s) :
    (st.push v).read (stackCell b) = st.read (stackCell b) := by
  refine st.read_push_of_ne v fun e => h (BitVec.eq_of_toNat_eq ?_)
  have hnum : 256 + b.toNat = 256 + st.s.toNat := by rw [← st.sp_toNat, ← e, stackCell, page1_toNat]
  exact Nat.add_left_cancel hnum

/-! ### Runs of pushes and pulls (R172) -/

theorem pushAll_s (st : State) (vs : List Byte) : (pushAll st vs).s = st.s - BitVec.ofNat 8 vs.length := by
  induction vs generalizing st with
  | nil => exact (BitVec.sub_zero st.s).symm
  | cons v rest ih =>
    rw [pushAll, ih, State.push_s, List.length_cons]
    bv_omega

/-- SP after at most 256 pushes: the offset is lower by their number, modulo 256. -/
theorem pushAll_sp_toNat (st : State) {vs : List Byte} (h : vs.length ≤ 256) :
    (pushAll st vs).sp.toNat = 256 + (st.s.toNat + 256 - vs.length) % 256 := by
  rw [State.sp_toNat, pushAll_s, BitVec.toNat_sub, BitVec.toNat_ofNat]
  omega

/-- Pushes leave the cell at offset `b` when they are too few to come down from S to it. -/
theorem read_pushAll_of_le (st : State) {vs : List Byte} {b : Byte} (h : vs.length ≤ (st.s - b).toNat) :
    (pushAll st vs).read (stackCell b) = st.read (stackCell b) := by
  induction vs generalizing st with
  | nil => rfl
  | cons v rest ih =>
    rw [List.length_cons] at h
    have hne : b ≠ st.s := by
      rintro rfl
      simp at h
    have hrest : rest.length ≤ ((st.push v).s - b).toNat := by
      rw [State.push_s]
      bv_omega
    rw [pushAll, ih _ hrest, st.read_push_stackCell_of_ne v hne]

/-- The last of several pulls comes after the others. -/
theorem pullMany_succ (st : State) (n : Nat) : pullMany st (n + 1) =
    ((pullMany st n).1 ++ [(pullMany st n).2.pull.1], (pullMany st n).2.pull.2) := by
  induction n generalizing st with
  | zero => rfl
  | succ n ih => rw [pullMany, ih, pullMany, List.cons_append]

/-- Pulls after as many pushes, at most 256: the bytes come in reverse order, and only the memory differs. The first
pushed byte is the last pulled, from a cell that the other pushes, at most 255, do not reach. -/
theorem pullMany_pushAll (st : State) {vs : List Byte} (h : vs.length ≤ 256) :
    pullMany (pushAll st vs) vs.length = (vs.reverse, { st with mem := (pushAll st vs).mem }) := by
  induction vs generalizing st with
  | nil => rfl
  | cons v rest ih =>
    rw [List.length_cons] at h
    have hlast : (pushAll (st.push v) rest).read (stackCell ((st.push v).s + 1#8)) = v := by
      rw [read_pushAll_of_le, st.read_push_next_pulled]
      bv_omega
    have hs : (st.push v).s + 1#8 = st.s := BitVec.sub_add_cancel st.s 1#8
    rw [pushAll, List.length_cons, pullMany_succ, ih _ (Nat.le_of_succ_le h), List.reverse_cons]
    exact Prod.ext (congrArg (rest.reverse ++ [·]) hlast)
      (congrArg (fun s => { st with mem := (pushAll (st.push v) rest).mem, s := s }) hs)

/-- Settles O10: S counts the pushes down, and the pulls undo them. -/
theorem pushesThenPullsReverse : Obligations.PushesThenPullsReverse := by
  intro st vs h
  refine ⟨pushAll_sp_toNat st h, ?_⟩
  rw [pullMany_pushAll st h]
  exact ⟨rfl, rfl⟩

/-! ### PHA, PHP, PLA, PLP (R173 to R176) -/

theorem exec_pha (st : State) : exec .pha st = .next ((st.push st.a).advance 1#16) := rfl

theorem exec_php (st : State) : exec .php st = .next ((st.push st.flagsToByte).advance 1#16) := rfl

/-- An instruction that is a push and an advance completes: the cell at SP reads the byte, every other cell reads as
before, and beside these only S, PC and the result byte are written. -/
theorem push_advance_writes_one_cell {i : Instr} {st : State} {v : Byte}
    (h : exec i st = .next ((st.push v).advance 1#16)) :
    ∃ t, exec i st = .next t ∧ t.read (stackCell st.s) = v ∧ SameMemoryExcept (stackCell st.s) st t ∧
      t = { st with mem := t.mem, s := st.s - 1#8, pc := st.pc + 1#16, result := none } :=
  ⟨_, h, st.read_push_self v, fun _ hne => st.read_push_of_ne v hne, rfl⟩

/-- Settles O11: PHA pushes A, PHP the status byte, whose number is the weighted sum of the flags. -/
theorem phaAndPhpPush : Obligations.PhaAndPhpPush := by
  intro st
  refine ⟨⟨rfl, push_advance_writes_one_cell (exec_pha st)⟩, rfl, ?_⟩
  obtain ⟨t, hexec, hcell, hrest⟩ := push_advance_writes_one_cell (exec_php st)
  exact ⟨t, hexec, by rw [hcell, State.flagsToByte_toNat], hrest⟩

/-- Settles O12: PLA and PLP pull the cell above S, and the flags PLP unpacks weigh the byte. -/
theorem plaAndPlpPull : Obligations.PlaAndPlpPull := by
  rintro st b rfl
  exact ⟨⟨rfl, exec_pla st⟩, rfl, _, exec_plp st, statusNumber_flagsFromByte { st with s := st.s + 1#8 } _, rfl⟩

/-- Settles O14: PLP pulls the byte that PHP pushed, and unpacking the packed flags leaves them. -/
theorem phpThenPlpRestoresFlags : Obligations.PhpThenPlpRestoresFlags := by
  intro st
  refine ⟨_, _, exec_php st, exec_plp _, ?_⟩
  set t := (st.push st.flagsToByte).advance 1#16
  have hbyte : t.read (0x0100#16 ||| zext16 (t.s + 1#8)) = st.flagsToByte :=
    st.read_push_next_pulled st.flagsToByte
  have hs : t.s + 1#8 = st.s := BitVec.sub_add_cancel st.s 1#8
  have hpc : t.pc + 1#16 = st.pc + 2#16 := BitVec.add_assoc st.pc 1#16 1#16
  have hflags : { t with s := st.s }.flagsFromByte st.flagsToByte = { t with s := st.s } :=
    State.flagsFromByte_flagsToByte { t with s := st.s }
  rw [hbyte, hs, hpc, hflags]
  rfl

end Sys2Proof.Machine
end

section
/-! PROOFS of the family 45_control: the address a JSR pushes and a later RTS pulls, and where a branch goes. -/

namespace Sys2Proof.Machine

open Sys2Proof Sys2Proof.Safety

/-! ### Return addresses on the stack (R183 to R185, R195) -/

/-- The high byte, pushed first, stays at S: the low byte goes one cell lower. -/
theorem read_pushAddress_high (ret : Word) (st : State) : (pushAddress ret st).read (stackCell st.s) = hiByte ret := by
  have hne : st.s ≠ (st.push (hiByte ret)).s := by
    rw [State.push_s]
    bv_omega
  rw [pushAddress, State.read_push_stackCell_of_ne _ _ hne]
  exact st.read_push_self (hiByte ret)

theorem read_pushAddress_low (ret : Word) (st : State) :
    (pushAddress ret st).read (stackCell (st.s - 1#8)) = loByte ret :=
  (st.push (hiByte ret)).read_push_self (loByte ret)

theorem read_pushAddress_of_ne (ret : Word) (st : State) {addr : Word} (hhigh : addr ≠ stackCell st.s)
    (hlow : addr ≠ stackCell (st.s - 1#8)) : (pushAddress ret st).read addr = st.read addr := by
  rw [pushAddress, State.read_push_of_ne _ _ hlow, State.read_push_of_ne _ _ hhigh]

/-- The address of two pulled bytes: the low byte comes first. -/
theorem pullAddress_of_pullMany {u v : State} {low high : Byte} (h : pullMany u 2 = ([low, high], v)) :
    pullAddress u = (makeAddress high low, v) := by
  cases (h : ([u.pull.1, u.pull.2.pull.1], u.pull.2.pull.2) = ([low, high], v))
  rfl

/-- Pulling an address undoes pushing it, but for the memory: its two bytes come back in reverse order (R172). -/
theorem pullAddress_pushAddress (ret : Word) (st : State) :
    pullAddress (pushAddress ret st) = (ret, { st with mem := (pushAddress ret st).mem }) := by
  have hpulled : pullMany (pushAddress ret st) 2 =
      ([loByte ret, hiByte ret], { st with mem := (pushAddress ret st).mem }) :=
    pullMany_pushAll st (vs := [hiByte ret, loByte ret]) (by simp)
  rw [pullAddress_of_pullMany hpulled, makeAddress_hiByte_loByte]

theorem exec_jsrAbsolute (st : State) (addr : Word) :
    exec (.jsrAbsolute addr) st = .next ((pushAddress (st.pc + 2#16) st).finish (eaAbsolute addr) none) := rfl

/-- RTS pulls from the stack alone, so it does the same wherever PC was sent before it. -/
theorem exec_rts_finish (u : State) (target : Word) (res : Option Byte) : exec .rts (u.finish target res) =
    .next ((pullAddress u).2.finish ((pullAddress u).1 + 1#16) none) := rfl

/-- Settles O17: the two pushed bytes are those of PC + 2, and the two pushes leave every other cell. -/
theorem jsrPushesReturnAddress : Obligations.JsrPushesReturnAddress := by
  intro st addr
  have hret : (st.pc + 2#16).toNat = (st.pc.toNat + 2) % 65536 := BitVec.toNat_add st.pc 2#16
  refine ⟨rfl, _, exec_jsrAbsolute st addr, ?high, ?low, fun a hhigh hlow => ?frame, ?rest⟩
  case high => rw [State.finish_read, read_pushAddress_high, hiByte_toNat, hret]
  case low =>
    rw [State.finish_read, read_pushAddress_low, loByte_toNat, hret]
    omega
  case frame => rw [State.finish_read, read_pushAddress_of_ne _ _ hhigh hlow]
  case rest =>
    have hs : st.s - 1#8 - 1#8 = st.s - 2#8 := by bv_omega
    rw [← hs]
    rfl

/-- Settles O18: the address is that of its two pulled bytes, high byte from the upper cell, and RTS adds 1. -/
theorem rtsReturnsPastPulledAddress : Obligations.RtsReturnsPastPulledAddress := by
  intro st
  have hs : st.s + 1#8 + 1#8 = st.s + 2#8 := BitVec.add_assoc st.s 1#8 1#8
  refine ⟨rfl, _, exec_rts st, ?_⟩
  rw [hs]
  exact ⟨by rw [BitVec.toNat_add, makeAddress_toNat]; rfl, rfl⟩

/-- Settles O19: the flags come from the first pulled byte, PC from the next two. -/
theorem rtiRestoresFlagsAndPc : Obligations.RtiRestoresFlagsAndPc := by
  rintro st b rfl
  have htwo : st.s + 1#8 + 1#8 = st.s + 2#8 := BitVec.add_assoc st.s 1#8 1#8
  have hthree : st.s + 2#8 + 1#8 = st.s + 3#8 := BitVec.add_assoc st.s 2#8 1#8
  refine ⟨rfl, _, exec_rti st, ?_⟩
  rw [htwo, hthree]
  exact ⟨makeAddress_toNat _ _, rfl⟩

/-- Settles O20: RTS pulls the address JSR pushed, PC + 2, and adds 1. -/
theorem jsrThenRtsReturnsAfterJsr : Obligations.JsrThenRtsReturnsAfterJsr := by
  intro st addr
  refine ⟨_, _, exec_jsrAbsolute st addr, exec_rts_finish _ _ _, ?_⟩
  have hpc : st.pc + 2#16 + 1#16 = st.pc + 3#16 := BitVec.add_assoc st.pc 2#16 1#16
  rw [pullAddress_pushAddress, hpc]
  rfl

/-! ### Branches (R186 to R194) -/

/-- The sign-extended displacement as a number: the signed displacement modulo 65536. -/
theorem sext16_toNat (v : Byte) : ((sext16 v).toNat : Int) = v.toInt % 65536 := by
  have hlt := (sext16 v).isLt
  rw [← sext16_toInt, BitVec.toInt_eq_toNat_cond]
  split <;> omega

/-- `Branch(cond)` completes and writes only PC and the result byte; the new PC is a signed sum modulo 65536. -/
theorem branch_target (st : State) (cond : Bool) (rel : Byte) :
    ∃ t, branch cond rel st = .next t ∧
      (t.pc.toNat : Int) = ((st.pc.toNat : Int) + 2 + (if cond then rel.toInt else 0)) % 65536 ∧
      t = { st with pc := t.pc, result := none } := by
  refine ⟨_, branch_eq st cond rel, ?_, rfl⟩
  have hnext : (st.pc + 2#16).toNat = (st.pc.toNat + 2) % 65536 := BitVec.toNat_add st.pc 2#16
  have hrel := sext16_toNat rel
  cases cond
  case false =>
    simp only [Bool.false_eq_true, if_false]
    omega
  case true =>
    have htaken : (st.pc + 2#16 + sext16 rel).toNat = ((st.pc + 2#16).toNat + (sext16 rel).toNat) % 65536 :=
      BitVec.toNat_add _ _
    simp only [if_true]
    omega

/-- Settles O21: each branch is `Branch(cond)` with the condition of its own flag. -/
theorem branchesAddSignedDisplacement : Obligations.BranchesAddSignedDisplacement := by
  rintro st i op rel cond (h | h | h | h | h | h | h | h)
  all_goals
    obtain ⟨rfl, rfl, rfl⟩ := h
    exact ⟨rfl, branch_target st _ rel⟩

/-! ### JMP, NOP and BRK (R180 to R182) -/

/-- Settles O15: both forms end with PC at the effective address of their mode. -/
theorem jmpAssignsProgramCounter : Obligations.JmpAssignsProgramCounter := fun _ _ _ => ⟨⟨rfl, rfl⟩, rfl, rfl⟩

/-- Settles O16: NOP is an advance by 1, and BRK sets B before it. -/
theorem nopAndBrkEffects : Obligations.NopAndBrkEffects := fun _ => ⟨⟨rfl, rfl⟩, rfl, rfl⟩

end Sys2Proof.Machine
end

section
/-! PROOFS of the family 46_arith_logic: addition and subtraction with carry as numbers, and each form of an ALU
instruction as its shared effect on the operand of the form. -/

namespace Sys2Proof.Machine

open Sys2Proof Sys2Proof.Safety

/-! ### The decimal check (R200, R262) -/

theorem decimalChecked_of_binary {st : State} (h : st.flagD = false ∨ st.cfg.decimalPolicy = .binary)
    (op : Byte) (done : State) : decimalChecked op st done = .next done := by
  obtain ⟨hd, hp, -⟩ | ⟨-, hnext⟩ := decimalChecked_cases (rfl : decimalChecked op st done = _)
  · simp [hd, hp] at h
  · exact hnext

theorem decimalChecked_of_fault {st : State} (h : st.flagD = true ∧ st.cfg.decimalPolicy = .fault)
    (op : Byte) (done : State) : decimalChecked op st done = .fault (.unmodelledDecimal st.pc op) := by
  obtain ⟨-, -, hfault⟩ | ⟨hbinary, -⟩ := decimalChecked_cases (rfl : decimalChecked op st done = _)
  · exact hfault
  · simp [h.1, h.2] at hbinary

/-! ### The addition as numbers (R201) -/

theorem ofNat_sumOf_toNat (p q : Byte) (carry : Bool) :
    (BitVec.ofNat 8 (sumOf p q carry)).toNat = (p.toNat + q.toNat + num carry) % 256 :=
  BitVec.toNat_ofNat _ _

theorem and_signBit_ne_zero (v : Byte) : (v &&& 0x80#8 != 0#8) = v.msb := by
  revert v
  decide

/-- Overflow compares sign bits: both operands differ from the result. -/
theorem overflowOf_eq_msb (p q r : Byte) : overflowOf p q r = ((p.msb ^^ r.msb) && (q.msb ^^ r.msb)) := by
  rw [overflowOf, and_signBit_ne_zero, BitVec.msb_and, BitVec.msb_xor, BitVec.msb_xor]

/-- The overflow of an addition says that the signed sum has no place in a byte. -/
theorem overflowOf_sumOf_iff (p q : Byte) (carry : Bool) :
    overflowOf p q (BitVec.ofNat 8 (sumOf p q carry)) = true ↔
      p.toInt + q.toInt + num carry < -128 ∨ 127 < p.toInt + q.toInt + num carry := by
  have hp := p.isLt
  have hq := q.isLt
  have hcarry : num carry ≤ 1 := Bool.toNat_le carry
  have hr := ofNat_sumOf_toNat p q carry
  simp only [overflowOf_eq_msb, BitVec.msb_eq_decide, BitVec.toInt_eq_toNat_cond, hr, Bool.and_eq_true, bne_iff_ne,
    ne_eq, decide_eq_decide]
  omega

/-- The complement as a signed number. -/
theorem not_toInt (m : Byte) : (~~~m).toInt = -m.toInt - 1 := by
  have hm := m.isLt
  simp only [BitVec.toInt_eq_toNat_cond, BitVec.toNat_not]
  omega

/-! ### ADC and SBC (R202, R203) -/

/-- Settles O22: every form is the checked addition of the operand of the form. -/
theorem adcAddsWithCarry : Obligations.AdcAddsWithCarry := by
  intro st i op len ea m h
  have hform : i.opcode = op ∧ exec i st = adc op m len st := by
    obtain ⟨rfl, rfl, rfl⟩ | ⟨rfl, h | h | h | h | h | h | h⟩ := h
    · exact ⟨rfl, rfl⟩
    all_goals
      obtain ⟨_, rfl, rfl, rfl, rfl⟩ := h
      exact ⟨rfl, rfl⟩
  obtain ⟨hop, hexec⟩ := hform
  rw [hexec]
  refine ⟨hop, fun hbinary => ⟨_, decimalChecked_of_binary hbinary op _, ?value, ?carry, rfl, ?overflow, rfl, rfl, rfl⟩,
    fun hfault => decimalChecked_of_fault hfault op _⟩
  case value => exact ofNat_sumOf_toNat st.a m st.flagC
  case carry => exact decide_eq_true_iff
  case overflow => exact overflowOf_sumOf_iff st.a m st.flagC

/-- Settles O23: every form is the checked addition of the complement of the operand, whose unsigned number is `255 - m`
and whose signed number is `-m - 1`. -/
theorem sbcSubtractsWithBorrow : Obligations.SbcSubtractsWithBorrow := by
  intro st i op len ea m h
  have hform : i.opcode = op ∧ exec i st = sbc op m len st := by
    obtain ⟨rfl, rfl, rfl⟩ | ⟨rfl, h | h | h | h | h | h | h⟩ := h
    · exact ⟨rfl, rfl⟩
    all_goals
      obtain ⟨_, rfl, rfl, rfl, rfl⟩ := h
      exact ⟨rfl, rfl⟩
  obtain ⟨hop, hexec⟩ := hform
  rw [hexec]
  refine ⟨hop, fun hbinary => ⟨_, decimalChecked_of_binary hbinary op _, ?value, ?carry, rfl, ?overflow, rfl, rfl, rfl⟩,
    fun hfault => decimalChecked_of_fault hfault op _⟩
  case value =>
    have hm := m.isLt
    have hvalue := ofNat_sumOf_toNat st.a (~~~m) st.flagC
    rw [BitVec.toNat_not] at hvalue
    simp only [State.advance_a, State.addToA_a]
    omega
  case carry =>
    have hm := m.isLt
    have hcarry : num st.flagC ≤ 1 := Bool.toNat_le st.flagC
    have hsum : sumOf st.a (~~~m) st.flagC = st.a.toNat + (255 - m.toNat) + num st.flagC := by
      rw [sumOf, BitVec.toNat_not]
      rfl
    rw [State.advance_flagC, State.addToA_flagC, decide_eq_true_iff, hsum]
    omega
  case overflow =>
    have hsum : st.a.toInt + (~~~m).toInt + num st.flagC = st.a.toInt - m.toInt - (1 - num st.flagC) := by
      rw [not_toInt]
      ring
    rw [← hsum]
    exact overflowOf_sumOf_iff st.a (~~~m) st.flagC

/-! ### AND, ORA and EOR (R204 to R206) -/

/-- Settles O24: every form writes A combined with the operand of the form, whose bits are the combined bits. -/
theorem logicOpsBitwise : Obligations.LogicOpsBitwise := by
  refine ⟨?and, ?ora, ?eor⟩
  case and =>
    rintro st i op len ea m (⟨rfl, rfl, rfl⟩ | ⟨rfl, h | h | h | h | h | h | h⟩)
    · exact ⟨rfl, _, logicA_eq st _ _, fun _ _ => BitVec.getLsbD_and, rfl⟩
    all_goals
      obtain ⟨_, rfl, rfl, rfl, rfl⟩ := h
      exact ⟨rfl, _, logicA_eq st _ _, fun _ _ => BitVec.getLsbD_and, rfl⟩
  case ora =>
    rintro st i op len ea m (⟨rfl, rfl, rfl⟩ | ⟨rfl, h | h | h | h | h | h | h⟩)
    · exact ⟨rfl, _, logicA_eq st _ _, fun _ _ => BitVec.getLsbD_or, rfl⟩
    all_goals
      obtain ⟨_, rfl, rfl, rfl, rfl⟩ := h
      exact ⟨rfl, _, logicA_eq st _ _, fun _ _ => BitVec.getLsbD_or, rfl⟩
  case eor =>
    rintro st i op len ea m (⟨rfl, rfl, rfl⟩ | ⟨rfl, h | h | h | h | h | h | h⟩)
    · exact ⟨rfl, _, logicA_eq st _ _, fun _ _ => BitVec.getLsbD_xor, rfl⟩
    all_goals
      obtain ⟨_, rfl, rfl, rfl, rfl⟩ := h
      exact ⟨rfl, _, logicA_eq st _ _, fun _ _ => BitVec.getLsbD_xor, rfl⟩

/-! ### CMP, CPX and CPY (R207 to R210) -/

/-- Settles O25: every form compares its own register with the operand of the form. -/
theorem comparesSetCarryZeroNegative : Obligations.ComparesSetCarryZeroNegative := by
  refine ⟨?cmp, ?cpx, ?cpy⟩
  case cmp =>
    rintro st i op len ea m (⟨rfl, rfl, rfl⟩ | ⟨rfl, h | h | h | h | h | h | h⟩)
    · exact ⟨rfl, compareWith_eq st st.a _ _⟩
    all_goals
      obtain ⟨_, rfl, rfl, rfl, rfl⟩ := h
      exact ⟨rfl, compareWith_eq st st.a _ _⟩
  case cpx =>
    rintro st i op len ea m (⟨rfl, rfl, rfl⟩ | ⟨rfl, h | h⟩)
    · exact ⟨rfl, compareWith_eq st st.x _ _⟩
    all_goals
      obtain ⟨_, rfl, rfl, rfl, rfl⟩ := h
      exact ⟨rfl, compareWith_eq st st.x _ _⟩
  case cpy =>
    rintro st i op len ea m (⟨rfl, rfl, rfl⟩ | ⟨rfl, h | h⟩)
    · exact ⟨rfl, compareWith_eq st st.y _ _⟩
    all_goals
      obtain ⟨_, rfl, rfl, rfl, rfl⟩ := h
      exact ⟨rfl, compareWith_eq st st.y _ _⟩

/-! ### BIT (R211) -/

/-- BIT's Z: two bytes whose conjunction is 0 have no common bit. -/
theorem and_beq_zero_iff (p q : Byte) : (p &&& q == 0#8) = true ↔ ∀ k < 8, (p.getLsbD k && q.getLsbD k) = false := by
  simp only [beq_iff_eq, BitVec.eq_of_getLsbD_eq_iff, BitVec.getLsbD_and, BitVec.getLsbD_zero]

/-- Settles O26: both forms test A against the cell at the effective address of the form. -/
theorem bitTestsMemoryOperand : Obligations.BitTestsMemoryOperand := by
  rintro st i op len ea m rfl (h | h)
  all_goals
    obtain ⟨_, rfl, rfl, rfl, rfl⟩ := h
    exact ⟨rfl, _, bitTest_eq st _ _, and_beq_zero_iff st.a _, rfl⟩

end Sys2Proof.Machine
end

section
/-! PROOFS of the family 47_shift_rotate: the one-bit shifts as numbers, and a shift or rotate of A or of the one cell an
instruction addresses. -/

namespace Sys2Proof.Machine

open Sys2Proof Sys2Proof.Safety

/-! ### The carry-out as a number (R220 to R223) -/

theorem getLsbD_seven_eq_decide (v : Byte) : v.getLsbD 7 = decide (128 ≤ v.toNat) :=
  (BitVec.msb_eq_getLsbD_last v).symm.trans (BitVec.msb_eq_decide v)

theorem getLsbD_zero_eq_decide (v : Byte) : v.getLsbD 0 = decide (v.toNat % 2 = 1) := Nat.testBit_zero v.toNat

/-! ### The result as a number (R220 to R223) -/

theorem shiftLeft_one_toNat (v : Byte) : (v <<< 1).toNat = 2 * v.toNat % 256 := by
  rw [BitVec.toNat_shiftLeft, Nat.shiftLeft_eq, Nat.mul_comm]

theorem ushiftRight_one_toNat (v : Byte) : (v >>> 1).toNat = v.toNat / 2 := by
  rw [BitVec.toNat_ushiftRight, Nat.shiftRight_eq_div_pow]

theorem flagBit_zero_toNat (f : Bool) : (flagBit f 0).toNat = num f := by
  cases f <;> rfl

theorem flagBit_seven_toNat (f : Bool) : (flagBit f 7).toNat = 128 * num f := by
  cases f <;> rfl

/-- The carry-in of ROL enters the place the shift has left free, so the two are added. -/
theorem rolOf_toNat (v : Byte) (cin : Bool) : (rolOf v cin).1.toNat = (2 * v.toNat + num cin) % 256 := by
  have hfree : v <<< 1 &&& flagBit cin 0 = 0#8 := by
    ext j hj
    obtain rfl | hne := eq_or_ne j 0
    · simp
    · simp [getElem_flagBit _ _ hj, hne]
  rw [rolOf, ← BitVec.add_eq_or_of_and_eq_zero _ _ hfree, BitVec.toNat_add, shiftLeft_one_toNat, flagBit_zero_toNat,
    Nat.mod_add_mod]

/-- The carry-in of ROR enters the place the shift has left free, so the two are added. -/
theorem rorOf_toNat (v : Byte) (cin : Bool) : (rorOf v cin).1.toNat = v.toNat / 2 + 128 * num cin := by
  have hfree : v >>> 1 &&& flagBit cin 7 = 0#8 := by
    ext j hj
    obtain rfl | hne := eq_or_ne j 7
    · simp
    · simp [getElem_flagBit _ _ hj, hne]
  have hv := v.isLt
  have hcin : num cin ≤ 1 := Bool.toNat_le cin
  rw [rorOf, ← BitVec.add_eq_or_of_and_eq_zero _ _ hfree, BitVec.toNat_add, ushiftRight_one_toNat, flagBit_seven_toNat]
  omega

/-! ### A and cells (R106, R117) -/

/-- A shift or rotate of A completes: A and C are the two parts of the shifter's answer, given here as a number and a
flag, N and Z come from the new A, and beside these only PC and the result byte are written. -/
theorem shiftA_writes_a (st : State) {f : Shifter} {value : Nat} {cout : Bool}
    (hvalue : (f st.a st.flagC).1.toNat = value) (hcout : (f st.a st.flagC).2 = cout) :
    ∃ t, shiftA f st = .next t ∧ t.a.toNat = value ∧ t.flagC = cout ∧
      t = { st with
        a := t.a, flagN := t.a.getLsbD 7, flagZ := decide (t.a = 0#8), flagC := t.flagC, pc := st.pc + 1#16,
        result := none } :=
  ⟨_, shiftA_eq st f, hvalue, hcout, rfl⟩

/-- A shift or rotate of a cell completes: the cell and C are the two parts of the shifter's answer, given here as a
number and a flag, every other cell reads as before, N and Z come from the new value, and beside these only PC and the
result byte are written. -/
theorem shiftCell_writes_one_cell (st : State) (ea len : Word) {f : Shifter} {value : Nat} {cout : Bool}
    (hvalue : (f (st.read ea) st.flagC).1.toNat = value) (hcout : (f (st.read ea) st.flagC).2 = cout) :
    ∃ t, shiftCell f ea len st = .next t ∧ (t.read ea).toNat = value ∧ SameMemoryExcept ea st t ∧ t.flagC = cout ∧
      t.flagN = (t.read ea).getLsbD 7 ∧ t.flagZ = decide (t.read ea = 0#8) ∧
      t = { st with
        mem := t.mem, flagN := t.flagN, flagZ := t.flagZ, flagC := t.flagC, pc := st.pc + len, result := none } := by
  have hcell := st.read_write_self ea (f (st.read ea) st.flagC).1
  refine ⟨_, shiftCell_eq st f ea len, ?value, fun _ hne => st.read_write_of_ne _ hne, hcout, ?flagN, ?flagZ, rfl⟩
  case value => exact (congrArg BitVec.toNat hcell).trans hvalue
  case flagN => exact congrArg (·.getLsbD 7) hcell.symm
  case flagZ => exact congrArg (· == 0#8) hcell.symm

/-! ### The four instructions (R220 to R223) -/

/-- Settles O27: every form shifts its operand left, and the top bit that is lost goes to C. -/
theorem aslDoublesIntoCarry : Obligations.AslDoublesIntoCarry := by
  constructor
  · exact fun st => ⟨rfl, shiftA_writes_a st (shiftLeft_one_toNat _) (getLsbD_seven_eq_decide _)⟩
  · rintro st i op len ea (h | h | h | h)
    all_goals
      obtain ⟨_, rfl, rfl, rfl, rfl⟩ := h
      exact ⟨rfl, shiftCell_writes_one_cell st _ _ (shiftLeft_one_toNat _) (getLsbD_seven_eq_decide _)⟩

/-- Settles O28: every form shifts its operand right, and the bottom bit that is lost goes to C. -/
theorem lsrHalvesIntoCarry : Obligations.LsrHalvesIntoCarry := by
  constructor
  · exact fun st => ⟨rfl, shiftA_writes_a st (ushiftRight_one_toNat _) (getLsbD_zero_eq_decide _)⟩
  · rintro st i op len ea (h | h | h | h)
    all_goals
      obtain ⟨_, rfl, rfl, rfl, rfl⟩ := h
      exact ⟨rfl, shiftCell_writes_one_cell st _ _ (ushiftRight_one_toNat _) (getLsbD_zero_eq_decide _)⟩

/-- Settles O29: every form rotates its operand left with the old C, and the top bit goes to C. -/
theorem rolRotatesLeftThroughCarry : Obligations.RolRotatesLeftThroughCarry := by
  constructor
  · exact fun st => ⟨rfl, shiftA_writes_a st (rolOf_toNat _ _) (getLsbD_seven_eq_decide _)⟩
  · rintro st i op len ea (h | h | h | h)
    all_goals
      obtain ⟨_, rfl, rfl, rfl, rfl⟩ := h
      exact ⟨rfl, shiftCell_writes_one_cell st _ _ (rolOf_toNat _ _) (getLsbD_seven_eq_decide _)⟩

/-- Settles O30: every form rotates its operand right with the old C, and the bottom bit goes to C. -/
theorem rorRotatesRightThroughCarry : Obligations.RorRotatesRightThroughCarry := by
  constructor
  · exact fun st => ⟨rfl, shiftA_writes_a st (rorOf_toNat _ _) (getLsbD_zero_eq_decide _)⟩
  · rintro st i op len ea (h | h | h | h)
    all_goals
      obtain ⟨_, rfl, rfl, rfl, rfl⟩ := h
      exact ⟨rfl, shiftCell_writes_one_cell st _ _ (rorOf_toNat _ _) (getLsbD_zero_eq_decide _)⟩

end Sys2Proof.Machine
end

section
/-! PROOFS of the families 48_flag_ops, 49_host_operations, 60_exceptions and 70_reset_and_hazards: the one cell a flag
instruction or a host setter writes, when a step faults, what the I flag influences, and the two resets. -/

namespace Sys2Proof.Machine

open Sys2Proof Sys2Proof.Safety

/-! ### The flag instructions (R230 to R236) -/

/-- Settles O31: each writes its flag and then advances by 1. -/
theorem flagOpsWriteOneFlag : Obligations.FlagOpsWriteOneFlag := fun _ =>
  ⟨⟨rfl, rfl⟩, ⟨rfl, rfl⟩, ⟨rfl, rfl⟩, ⟨rfl, rfl⟩, ⟨rfl, rfl⟩, ⟨rfl, rfl⟩, ⟨rfl, rfl⟩⟩

/-! ### The host setters (R242 to R245, R249) -/

/-- `set_sp` keeps the low byte of its argument (R243). -/
theorem State.setSp_s_toNat (st : State) (w : Word) : (st.setSp w).s.toNat = w.toNat % 256 := loByte_toNat w

/-- `get_sp` answers the view of S in page 1 (R243). -/
theorem State.getSp_toNat (st : State) : st.getSp.toNat = 256 + st.s.toNat := st.sp_toNat

/-- Settles O60: every setter but `set_sp` stores the value itself; `set_sp` stores its low byte, which `get_sp` answers in
page 1. -/
theorem hostSettersWriteOneCell : Obligations.HostSettersWriteOneCell := by
  intro st v w f
  have hgetSp : (st.setSp w).getSp.toNat = 256 + w.toNat % 256 := by
    rw [State.getSp_toNat, State.setSp_s_toNat]
  exact ⟨⟨rfl, rfl⟩, ⟨rfl, rfl⟩, ⟨rfl, rfl⟩, ⟨rfl, st.setSp_s_toNat w, hgetSp, st.getSp_toNat⟩, ⟨rfl, rfl⟩, rfl,
    ⟨rfl, rfl⟩, ⟨rfl, rfl⟩, ⟨rfl, rfl⟩, ⟨rfl, rfl⟩, ⟨rfl, rfl⟩, ⟨rfl, rfl⟩, ⟨rfl, rfl⟩, ⟨rfl, rfl⟩⟩

/-! ### Illegal opcode bytes (R86, R260, R261) -/

theorem step_of_illegal {st : State} (h : (st.read st.pc).toNat ∈ illegalBytes) :
    step st = illegalOpcodeStep (st.read st.pc) st :=
  step_of_decodeFetched_error (decodeFetched_of_illegal h _ _)

theorem illegalOpcodeStep_of_fault {st : State} (h : st.cfg.illegalOpcodePolicy = .fault) (op : Byte) :
    illegalOpcodeStep op st = .fault (.illegalOpcode st.pc op) := by
  rw [illegalOpcodeStep, h]
  rfl

theorem illegalOpcodeStep_of_stallNoOp {st : State} (h : st.cfg.illegalOpcodePolicy = .stallNoOp) (op : Byte) :
    illegalOpcodeStep op st = .next { st with result := none } := by
  rw [illegalOpcodeStep, h]
  rfl

/-- Settles O33: a byte of R86 takes the illegal-opcode path, which faults under this policy. -/
theorem illegalByteFaults : Obligations.IllegalByteFaults := fun _ hop hpolicy =>
  ⟨(step_of_illegal hop).trans (illegalOpcodeStep_of_fault hpolicy _), rfl⟩

/-- Settles O34: the illegal-opcode path stalls under this policy, and the next step does not read the output, the one
thing that may have changed. -/
theorem stallPolicyChangesNothing : Obligations.StallPolicyChangesNothing := by
  intro st hop hpolicy
  have hstall : step st = .next { st with result := none } :=
    (step_of_illegal hop).trans (illegalOpcodeStep_of_stallNoOp hpolicy _)
  exact ⟨_, hstall, rfl, (resultByteIsNeverRead st none).trans hstall⟩

/-! ### Completion and the decimal fault (R262, R264) -/

theorem checksDecimal_iff {m : Mnemonic} : checksDecimal m = true ↔ m = .adc ∨ m = .sbc := by
  simp [checksDecimal]

/-- Settles O52: ADC and SBC complete unless their decimal check faults, and every other instruction completes. -/
theorem execCompletesExceptDecimal : Obligations.ExecCompletesExceptDecimal := by
  intro i st
  rw [← checksDecimal_iff]
  obtain ⟨hm, done, hexec⟩ | ⟨hm, t, hexec⟩ := exec_cases i st
  · obtain ⟨hd, hp, hfault⟩ | ⟨hbinary, hnext⟩ := decimalChecked_cases hexec.symm
    · exact .inr ⟨hm, hd, hp, hfault, rfl⟩
    · exact .inl ⟨done, hnext, fun ⟨_, hd, hp⟩ => by simp [hd, hp] at hbinary⟩
  · exact .inl ⟨t, hexec, fun ⟨hm', _⟩ => by simp [hm] at hm'⟩

/-! ### The I flag (R27, R263) -/

/-- The decimal check does not read I. -/
theorem decimalChecked_setI {st t done : State} {op : Byte} (f : Bool) (h : decimalChecked op st done = .next t) :
    decimalChecked op (st.setI f) (done.setI f) = .next (t.setI f) := by
  obtain ⟨-, -, hfault⟩ | ⟨hbinary, hnext⟩ := decimalChecked_cases h
  · cases hfault
  · cases hnext
    exact decimalChecked_of_binary hbinary op _

/-- What the old value of I can reach in a next state: nothing where CLI, SEI, PLP or RTI replace I, and only I itself where
any other instruction but PHP carries it through. -/
theorem exec_setI {i : Instr} {st t : State} (hphp : i.mnemonic ≠ .php) (f : Bool) (h : exec i st = .next t) :
    exec i (st.setI f) = .next t ∨ exec i (st.setI f) = .next (t.setI f) := by
  cases i
  case php => exact absurd rfl hphp
  case cli | sei | plp | rti => exact .inl h
  case adcImmediate | adcZeroPage | adcZeroPageX | adcIndexedIndirectX | adcIndirectIndexedY | adcAbsolute |
      adcAbsoluteX | adcAbsoluteY | sbcImmediate | sbcZeroPage | sbcZeroPageX | sbcIndexedIndirectX |
      sbcIndirectIndexedY | sbcAbsolute | sbcAbsoluteX | sbcAbsoluteY =>
    exact .inr (decimalChecked_setI f h)
  all_goals
    cases h
    exact .inr rfl

/-- Settles O56: the two next states are the same or differ in the I they carry. -/
theorem interruptDisableMasksNothing : Obligations.InterruptDisableMasksNothing := by
  intro i st t f hphp h
  obtain hsame | hcarried := exec_setI hphp f h
  · exact ⟨t, hsame, rfl⟩
  · exact ⟨t.setI f, hcarried, rfl⟩

/-! ### The resets (R61, R280, R281) -/

/-- Settles O48: the CPU reset takes no register or flag from the old state, and the memory reset lists no cell. -/
theorem cpuAndMemoryResets : Obligations.CpuAndMemoryResets := fun _ => ⟨⟨_, rfl, rfl, rfl⟩, fun _ => rfl, rfl⟩

end Sys2Proof.Machine
end
